-- ==== Sys2Proof/Word.lean ====
section
/-!
DEFINITION. The block's word types, one abbreviation per register width of 10_state.md R10 and per
encoded word of 30_encoding.md R50, R51, R53, R56. All quantities are unsigned (00_scope.md R6).
-/

namespace Sys2Proof

/-- A brightness level register or a frame table entry: 4 bits, legal 0..8 (R11, R53). -/
abbrev Level := BitVec 4

/-- The LED index register `led`: 3 bits, legal 0..5 (R12). -/
abbrev LedIndex := BitVec 3

/-- The sub-frame position register `sub`: 4 bits, legal 0..8 (R13). -/
abbrev SubTick := BitVec 4

/-- The tick counter `cnt`: 10 bits, legal 0..749 between events (R15). -/
abbrev TickCount := BitVec 10

/-- The animation cursor `ai`: 6 bits, legal 0..53 (R16). -/
abbrev FrameIndex := BitVec 6

/-- A brightness mask: 8 bits, bit b belongs to sub-tick b (R31, R53). -/
abbrev Mask := BitVec 8

/-- One of the two pin registers: 3 bits, bit PINBIT(p) for pin p (R17). -/
abbrev PinReg := BitVec 3

/-- The pin word `{pin_dir, pin_out}`: 6 bits, direction on the more significant side (R51). -/
abbrev PinWord := BitVec 6

/-- The event word `{rst, tick}`: bit 1 is `rst`, bit 0 is `tick` (R50). -/
abbrev EventWord := BitVec 2

/-- The slot code of a micro-operation: 3 bits (R56). -/
abbrev SlotCode := BitVec 3

end Sys2Proof
end

