-- ==== Sys2Proof/Syntax.lean ====
section
/-!
DEFINITION. The sixteen operations of 30_encoding.md R49, one constructor per row of
spec/opcode_table.json, the three formats, and the words that encode them.
-/

namespace Sys2Proof

/-- The three formats of R49. -/
inductive Format where
  /-- Input events, 2-bit event words (R50). -/
  | ev
  /-- Micro-operations, 3-bit slot codes (R56). -/
  | uop
  /-- Pin commands, 6-bit pin words (R51, R52). -/
  | pc
deriving DecidableEq, Repr

/-- The sixteen operations (R49). None has an operand. -/
inductive Instr where
  /-- RESET: every register to its reset value (R140). -/
  | reset
  /-- TICK: one timer tick (R70). -/
  | tick
  /-- HOLD: no event (R73). -/
  | hold
  /-- LOOKUP: micro-operation 0, brightness and mask table read (R71). -/
  | lookup
  /-- BITSEL: micro-operation 1, selection of one mask bit (R72). -/
  | bitsel
  /-- PINCMD: micro-operation 2, choice and issue of one pin command (R80). -/
  | pincmd
  /-- ADVANCE: micro-operation 3, advance of the scan cursor (R90). -/
  | advance
  /-- COUNT: micro-operation 4, tick counter (R100). -/
  | count
  /-- ANIMATE: micro-operation 5, one animator step (R110). -/
  | animate
  /-- PIN_OFF: all three pins undriven (R81). -/
  | pinOff
  /-- PIN_ON0: light LED 0 (R82). -/
  | pinOn0
  /-- PIN_ON1: light LED 1 (R83). -/
  | pinOn1
  /-- PIN_ON2: light LED 2 (R84). -/
  | pinOn2
  /-- PIN_ON3: light LED 3 (R85). -/
  | pinOn3
  /-- PIN_ON4: light LED 4 (R86). -/
  | pinOn4
  /-- PIN_ON5: light LED 5 (R87). -/
  | pinOn5
deriving DecidableEq, Repr

/-- The format column of R49's table. -/
def Instr.format : Instr → Format
  | .reset => .ev
  | .tick => .ev
  | .hold => .ev
  | .lookup => .uop
  | .bitsel => .uop
  | .pincmd => .uop
  | .advance => .uop
  | .count => .uop
  | .animate => .uop
  | .pinOff => .pc
  | .pinOn0 => .pc
  | .pinOn1 => .pc
  | .pinOn2 => .pc
  | .pinOn3 => .pc
  | .pinOn4 => .pc
  | .pinOn5 => .pc

/-- PIN_ON(k), the pin command that lights LED k (R52), as one of the six constructors. -/
def Instr.pinOn (k : Fin 6) : Instr :=
  match k with
  | 0 => .pinOn0
  | 1 => .pinOn1
  | 2 => .pinOn2
  | 3 => .pinOn3
  | 4 => .pinOn4
  | 5 => .pinOn5

/-- A word presented to the decoder, in one of the three formats of R49. The hardware's host delivers
event words only (R57). Words of the other two formats let one operation be run alone
(DESIGN CHOICE, log entry 4; safe). -/
inductive OpWord where
  | ev (w : EventWord)
  | uop (w : SlotCode)
  | pc (w : PinWord)
deriving DecidableEq, Repr

/-- The format of a presented word. -/
def OpWord.format : OpWord → Format
  | .ev _ => .ev
  | .uop _ => .uop
  | .pc _ => .pc

/-- Is the word an event word, the only kind the hardware's host can deliver (R50, R57)? -/
def OpWord.isEvent : OpWord → Bool
  | .ev _ => true
  | .uop _ => false
  | .pc _ => false

end Sys2Proof
end

