-- ==== Sys2Proof/Config.lean ====
section
/-!
DEFINITION. The types of the block's parameters (00_scope.md R5): the three constant tables that R5
marks OPEN, the ignored selector and the tick rate, as one configuration record. The values are in
Machine/Parameters.lean, the constraints in WellFormed.lean.
-/

namespace Sys2Proof

/-- The three shared pins (R32). -/
inductive Pin where
  | A
  | B
  | C
deriving DecidableEq, Repr

/-- One entry of the LED topology table: the pin driven high and the pin driven low (R32). -/
structure LedPins where
  anode : Pin
  cathode : Pin
deriving DecidableEq, Repr

/-- The brightness mask table `MASK`: 9 masks, indexed by brightness level (R31). -/
abbrev MaskTable := Vector Mask 9

/-- The LED topology table `TOPO`: 6 pin pairs, indexed by LED (R32). -/
abbrev Topology := Vector LedPins 6

/-- The animation frame table `FRAME`: 54 levels, indexed by the animation cursor (R33). -/
abbrev FrameTable := Vector Level 54

/-- The parameters of the step function that R5 leaves OPEN or makes an input (R19). -/
structure Config where
  /-- `MASK` (R31). -/
  mask : MaskTable
  /-- `TOPO` (R32). -/
  topo : Topology
  /-- `FRAME` (R33). -/
  frame : FrameTable
  /-- `SEL`, the animation selector, an integer of unstated width that no operation reads (R131). -/
  sel : Int
  /-- `F_TICK` in hertz: no rule depends on it (R152). -/
  fTickHz : Nat
deriving DecidableEq, Repr

end Sys2Proof
end

