-- ==== Sys2Proof/WellFormed.lean ====
section
/-!
DEFINITION. The well-formedness checks of 93_implementation_defined.md U10, U11 and U12 on a
configuration, and of 30_encoding.md R57 on a presented word. An instruction has no operand (R49), so
every term of `Instr` is well formed.
-/

namespace Sys2Proof

/-- The number of set bits of a mask. -/
def popcount (m : Mask) : Nat :=
  ((List.range 8).filter fun b => m.getLsbD b).length

/-- U12: the mask at index L has exactly L set bits. The position of the bits is free (D6). -/
abbrev MaskOk (m : MaskTable) : Prop :=
  ∀ L : Fin 9, popcount m[L] = L.val

/-- U11: anode and cathode differ in every entry and no entry is repeated, so the six entries are the
six ordered pairs of three distinct pins (R32). -/
abbrev TopologyOk (t : Topology) : Prop :=
  (∀ k : Fin 6, t[k].anode ≠ t[k].cathode) ∧ ∀ j k : Fin 6, t[j] = t[k] → j = k

/-- U10: every frame table entry is a level in 0..8 (R114). -/
abbrev FrameOk (f : FrameTable) : Prop :=
  ∀ n : Fin 54, f[n].toNat ≤ 8

/-- A configuration the spec admits (U10, U11, U12). -/
abbrev Config.Ok (c : Config) : Prop :=
  MaskOk c.mask ∧ TopologyOk c.topo ∧ FrameOk c.frame

/-- The seven pin words the block can put out (R52). They do not depend on the topology. -/
def legalPinWords : List PinWord :=
  [0b000000#6, 0b011001#6, 0b011010#6, 0b110010#6, 0b110100#6, 0b101100#6, 0b101001#6]

/-- R57: every event word is defined, slot codes 110 and 111 are unused, and 57 pin words are unused. -/
def OpWord.ok : OpWord → Bool
  | .ev _ => true
  | .uop w => decide (w.toNat ≤ 5)
  | .pc w => decide (w ∈ legalPinWords)

end Sys2Proof
end

