-- ==== Sys2Proof/Machine/Parameters.lean ====
section
/-!
DEFINITION. The fixed sizes and constants of 00_scope.md R5 that an operation uses, and the reference
values of the OPEN tables (20_memory.md R31, R32, R33), which the test vectors and State.reset use.
-/

namespace Sys2Proof.Machine

/-- The highest LED index, N_LED − 1: the index at which `led` wraps (R90). -/
abbrev lastLed : LedIndex := 5

/-- BLANK_POS: the value of `sub` on the blank tick (R5, D7). -/
abbrev blankPos : SubTick := 8

/-- ANIM_THRESHOLD: the count that reloads the tick counter and fires the animator (R5). -/
abbrev animThreshold : TickCount := 750

/-- The highest animation cursor, FRAME_LEN − 1: the index after which the cursor wraps (R110). -/
abbrev lastFrame : FrameIndex := 53

/-- The highest legal brightness level, to which LOOKUP clamps (R36, D14; parameter CLAMP = true). -/
abbrev maxLevel : Level := 8

/-- The reference brightness mask table, `MASK[L] = (0xFF00 >> L) & 0xFF` (R31, D6). -/
def maskRef : MaskTable :=
  #v[0x00#8, 0x80#8, 0xC0#8, 0xE0#8, 0xF0#8, 0xF8#8, 0xFC#8, 0xFE#8, 0xFF#8]

/-- The reference LED topology table TOPO_REF (R32, D8). -/
def topoRef : Topology :=
  #v[⟨.A, .B⟩, ⟨.B, .A⟩, ⟨.B, .C⟩, ⟨.C, .B⟩, ⟨.C, .A⟩, ⟨.A, .C⟩]

/-- The reference animation frame table FRAME_REF, written in full as R33 prints it. -/
def frameRef : FrameTable :=
  #v[0, 0, 0, 1, 1, 1, 2, 2, 2, 3, 3, 3, 4, 4, 4, 5, 5, 5, 6, 6, 6, 7, 7, 7, 8, 8, 8,
     8, 8, 8, 7, 7, 7, 6, 6, 6, 5, 5, 5, 4, 4, 4, 3, 3, 3, 2, 2, 2, 1, 1, 1, 0, 0, 0]

/-- FRAME_ALT: FRAME_REF rotated by three places, the recorded alternative (R33, C4). -/
def frameAlt : FrameTable :=
  #v[0, 0, 0, 0, 0, 0, 1, 1, 1, 2, 2, 2, 3, 3, 3, 4, 4, 4, 5, 5, 5, 6, 6, 6, 7, 7, 7,
     8, 8, 8, 8, 8, 8, 7, 7, 7, 6, 6, 6, 5, 5, 5, 4, 4, 4, 3, 3, 3, 2, 2, 2, 1, 1, 1]

/-- The other reading of the mask table, `MASK[L] = 2^L − 1` (R31, D6). -/
def maskAlt : MaskTable :=
  #v[0x00#8, 0x01#8, 0x03#8, 0x07#8, 0x0F#8, 0x1F#8, 0x3F#8, 0x7F#8, 0xFF#8]

/-- The reference configuration of R5: the value of every OPEN parameter that the test vectors use.
SEL is 0, the premise of a claim about the pendant (D16); F_TICK is 10 kHz (D22). -/
def referenceConfig : Config where
  mask := maskRef
  topo := topoRef
  frame := frameRef
  sel := 0
  fTickHz := 10000

end Sys2Proof.Machine
end

