-- ==== Sys2Proof/Machine/Operands.lean ====
section
/-!
DEFINITION. Operand forms: the pin positions of 30_encoding.md R51 and R53, the values a pin command
writes (R52), and the operand assembly of R54 (the clamped mask index, the mask bit, the three frame
indices). Every function here is total.
-/

namespace Sys2Proof.Machine

/-- PINBIT: the position of a pin in the two pin registers (R51, D9). -/
def pinBit : Pin → Nat
  | .A => 0
  | .B => 1
  | .C => 2

/-- `onehot(p)`: the 3-bit value with only bit PINBIT(p) set (R6, R53). -/
def onehot : Pin → PinReg
  | .A => 0b001#3
  | .B => 0b010#3
  | .C => 0b100#3

/-- The 2-bit pin code of a topology entry: A = 0, B = 1, C = 2 (R53). -/
def pinCode : Pin → BitVec 2
  | .A => 0b00#2
  | .B => 0b01#2
  | .C => 0b10#2

/-- The pin a code stands for; code 3 is not a pin (R53, R57). -/
def pinOfCode (c : BitVec 2) : Option Pin :=
  match c.toNat with
  | 0 => some .A
  | 1 => some .B
  | 2 => some .C
  | _ => none

/-- A topology entry as 4 bits: anode code in bits 3:2, cathode code in bits 1:0 (R53). -/
def encodeTopoEntry (e : LedPins) : BitVec 4 :=
  pinCode e.anode ++ pinCode e.cathode

/-- The topology entry a 4-bit value stands for, if both codes are pins (R53). -/
def decodeTopoEntry (w : BitVec 4) : Option LedPins :=
  match pinOfCode (w.extractLsb' 2 2), pinOfCode (w.extractLsb' 0 2) with
  | some a, some c => some ⟨a, c⟩
  | _, _ => none

/-- The direction value of PIN_ON for an LED: anode and cathode pins are outputs (R52). -/
def onDir (e : LedPins) : PinReg :=
  onehot e.anode ||| onehot e.cathode

/-- The level value of PIN_ON for an LED: only the anode pin is driven high (R52). -/
def onOut (e : LedPins) : PinReg :=
  onehot e.anode

/-- The pin word `{pin_dir, pin_out}` from its two halves (R51). -/
def joinPins (dir out : PinReg) : PinWord :=
  dir ++ out

/-- The pin word of PIN_ON for an LED (R52). -/
def onWord (e : LedPins) : PinWord :=
  joinPins (onDir e) (onOut e)

/-- The pin word of PIN_OFF (R52, R81). -/
def offWord : PinWord := 0b000000#6

/-- The mask index `min(L, 8)` (R54, R71): CLAMP is true (R36, D14). -/
def clampLevel (L : Level) : Level :=
  if L.toNat ≤ maxLevel.toNat then L else maxLevel

/-- `MASK[min(L, 8)]` (R71). -/
def maskAt (t : MaskTable) (L : Level) : Mask :=
  t[(clampLevel L).toNat]'(by
    unfold clampLevel
    split
    · have h : L.toNat ≤ 8 := by assumption
      omega
    · decide)

/-- Bit `b` of a mask, bit 0 least significant (R54, D5). -/
def maskBit (m : Mask) (b : SubTick) : Bool :=
  m.getLsbD b.toNat

/-- `(n + 1) mod 54` on a frame index in 0..53 (R110, R76). -/
def nextFrame (n : FrameIndex) : FrameIndex :=
  if n = lastFrame then 0 else n + 1

end Sys2Proof.Machine
end

