-- ==== Sys2Proof/Decode.lean ====
section
/-!
DEFINITION. Decoding and encoding (30_encoding.md sections 2, 3, 5 and 6). Each of the three formats
has a code space of its own, so a word carries its format. Decoding is total; an unused word is
rejected by name. A pin word names the LED whose topology entry gives it (R52).
-/

namespace Sys2Proof

open Sys2Proof.Machine

/-- Why a word is not an operation (R57). -/
inductive DecodeError where
  /-- Slot code 110 or 111. -/
  | unusedSlotCode
  /-- One of the 57 pin words not listed in R52. -/
  | unusedPinWord
deriving DecidableEq, Repr

/-- The event of an event word: `1t` RESET, `01` TICK, `00` HOLD (R50). RESET wins over a simultaneous
tick (R125). -/
def decodeEvent (w : EventWord) : Instr :=
  if w.getLsbD 1 then .reset
  else if w.getLsbD 0 then .tick
  else .hold

/-- The micro-operation of a slot code (R56). -/
def decodeSlot (w : SlotCode) : Except DecodeError Instr :=
  match w.toNat with
  | 0 => .ok .lookup
  | 1 => .ok .bitsel
  | 2 => .ok .pincmd
  | 3 => .ok .advance
  | 4 => .ok .count
  | 5 => .ok .animate
  | _ => .error .unusedSlotCode

/-- The pin command whose pin word, under the topology `t`, is `w` (R52). -/
def decodePin (t : Topology) (w : PinWord) : Except DecodeError Instr :=
  if w = offWord then .ok .pinOff
  else if w = onWord t[0] then .ok .pinOn0
  else if w = onWord t[1] then .ok .pinOn1
  else if w = onWord t[2] then .ok .pinOn2
  else if w = onWord t[3] then .ok .pinOn3
  else if w = onWord t[4] then .ok .pinOn4
  else if w = onWord t[5] then .ok .pinOn5
  else .error .unusedPinWord

/-- The operation a presented word stands for. -/
def decode (t : Topology) : OpWord → Except DecodeError Instr
  | .ev w => .ok (decodeEvent w)
  | .uop w => decodeSlot w
  | .pc w => decodePin t w

/-- The word of an operation, from the same encoding tables: R50 for events (RESET with `tick` clear),
R56 for micro-operations, R52 for pin commands. -/
def encode (t : Topology) : Instr → OpWord
  | .reset => .ev 0b10#2
  | .tick => .ev 0b01#2
  | .hold => .ev 0b00#2
  | .lookup => .uop 0b000#3
  | .bitsel => .uop 0b001#3
  | .pincmd => .uop 0b010#3
  | .advance => .uop 0b011#3
  | .count => .uop 0b100#3
  | .animate => .uop 0b101#3
  | .pinOff => .pc offWord
  | .pinOn0 => .pc (onWord t[0])
  | .pinOn1 => .pc (onWord t[1])
  | .pinOn2 => .pc (onWord t[2])
  | .pinOn3 => .pc (onWord t[3])
  | .pinOn4 => .pc (onWord t[4])
  | .pinOn5 => .pc (onWord t[5])

/-- The presented word that the host's pair (number of bits, value) stands for. The table gives events
2 bits, micro-operations 3 and pin commands 6, and their code spaces overlap (0 is HOLD, LOOKUP and
PIN_OFF). Where the number of bits tells the format, it decides. Where it has been rounded up to
whole bytes, the value decides: 0..3 is an event word, the only kind that comes from outside (R57), 4
and 5 are slot codes, and the rest are pin words (DESIGN CHOICE, log entry 5). -/
def tableWord (nbits w : Nat) : Option OpWord :=
  if nbits = 2 then (if w < 4 then some (.ev (BitVec.ofNat 2 w)) else none)
  else if nbits = 3 then (if w < 8 then some (.uop (BitVec.ofNat 3 w)) else none)
  else if nbits = 6 then (if w < 64 then some (.pc (BitVec.ofNat 6 w)) else none)
  else if w < 4 then some (.ev (BitVec.ofNat 2 w))
  else if w < 8 then some (.uop (BitVec.ofNat 3 w))
  else if w < 64 then some (.pc (BitVec.ofNat 6 w))
  else none

/-- The instruction the decoder reads from a row of spec/opcode_table.json, whose pin words are those of
the reference topology (R52). -/
def decodeTableWord (nbits w : Nat) : Option Instr :=
  match tableWord nbits w with
  | none => none
  | some ow =>
    match decode topoRef ow with
    | .ok i => some i
    | .error _ => none

/-- The same instruction under another topology: a pin word of the table is written again as the word
that the topology `t` gives the same pin command; every other word stands (R52). -/
def relabel (t : Topology) : OpWord → OpWord
  | .ev w => .ev w
  | .uop w => .uop w
  | .pc w =>
    match decode topoRef (.pc w) with
    | .ok i => encode t i
    | .error _ => .pc w

end Sys2Proof
end

