-- ==== Sys2Proof/Machine/Flags.lean ====
section
/-!
DEFINITION. The conditions of 10_state.md R18. The block stores no flag: each is computed from the
values before it and used once.
-/

namespace Sys2Proof.Machine

/-- `on` for a legal `sub`: bit `sub` of the mask on ticks 0..7, and 0 on the blank tick (R72). -/
def onCond (m : Mask) (sub : SubTick) : Bool :=
  if sub = blankPos then false else maskBit m sub

/-- `wrap`: the tick is the last of its sub-frame (R90). -/
def wrapCond (sub : SubTick) : Bool :=
  sub == blankPos

/-- `fire`: the incremented counter reaches the threshold (R100, D13). -/
def fireCond (cnt : TickCount) : Bool :=
  cnt + 1 == animThreshold

end Sys2Proof.Machine
end

