-- ==== Sys2Proof/Machine/State.lean ====
section
/-!
DEFINITION. The machine's state: the twelve registers of 10_state.md R10, the values that live inside a
tick (R18), the parameters of the step (R19) and the words still to be delivered by the host (R58).
Plain data throughout.
-/

namespace Sys2Proof.Machine

/-- The four values computed inside a tick (R18). Between events the spec keeps none of them. The model
holds them so that a micro-operation run alone has a place for its result (DESIGN CHOICE, log
entry 6). -/
structure Wires where
  /-- `mask`, the result of LOOKUP (R71). -/
  mask : Mask
  /-- `on`, the result of BITSEL (R72). -/
  isOn : Bool
  /-- `wrap`, computed by ADVANCE (R90). -/
  wrap : Bool
  /-- `fire`, the result of COUNT (R100). -/
  fire : Bool
deriving DecidableEq, Repr

/-- The value of the wires between events: nothing of a tick survives it (R18). The zeros are the model's
(DESIGN CHOICE, log entry 6). -/
def Wires.idle : Wires where
  mask := 0x00#8
  isOn := false
  wrap := false
  fire := false

/-- The state of the machine. -/
structure State where
  /-- The brightness registers `bv[0]`..`bv[5]` (R11). -/
  bv : Vector Level 6
  /-- The scan cursor's LED index (R12). -/
  led : LedIndex
  /-- The scan cursor's sub-frame position (R13). -/
  sub : SubTick
  /-- The tick counter (R15). -/
  cnt : TickCount
  /-- The animation cursor (R16). -/
  ai : FrameIndex
  /-- `pin_dir`, the direction register of the shared pins (R17). -/
  pinDir : PinReg
  /-- `pin_out`, the output level register of the shared pins (R17). -/
  pinOut : PinReg
  /-- The values inside a tick; the model's own field (R18, log entry 6). -/
  wires : Wires
  /-- The parameters of the step, which no step changes; the model's own field (R19, R41, log entry 1). -/
  config : Config
  /-- The words the host still delivers, oldest first; the model's own field (R58, log entry 3). -/
  stimulus : List OpWord
deriving DecidableEq, Repr

/-- Why the machine stops with a fault. The block raises no exception and reports no error: the set of
causes is empty (R120), so nothing raises one. -/
inductive Fault where
deriving DecidableEq, Repr

/-- Why the machine refuses to go on. Every case but the first is one that
93_implementation_defined.md says a model refuses; none is reachable from reset under event words. -/
inductive Refusal where
  /-- An instruction without a meaning yet; raised by an arm of `exec` only. Safe. -/
  | notModelled (mnemonic : String)
  /-- U2: `led` is 6 or 7 where an operation uses it. Raised by LOOKUP, PINCMD with `on` set, ADVANCE and
  TICK. Safe: the spec gives the case no behaviour. -/
  | ledOutOfRange
  /-- U3: `sub` is in 9..15. Raised by BITSEL, ADVANCE and TICK. Safe: the spec gives no behaviour. -/
  | subOutOfRange
  /-- U4: `cnt` is in 750..1023. Raised by COUNT and TICK. Safe: the spec gives no behaviour. -/
  | cntOutOfRange
  /-- U5: `ai` is in 54..63 where ANIMATE runs. Raised by ANIMATE and by a TICK that fires. Safe: the spec
  gives no behaviour. -/
  | aiOutOfRange
  /-- R57: a delivered slot code is 110 or 111. Raised by the fetch. Safe: no operation has that code. -/
  | unusedSlotCode
  /-- R57: a delivered pin word is not one of the seven. Raised by the fetch. Safe: no operation has that
  word. -/
  | unusedPinWord
  /-- U10, U11, U12: the configuration is not one the spec admits. Raised by the fetch. Safe: no rule
  applies to such a block. -/
  | illFormedConfig
deriving DecidableEq, Repr

/-- The state right after RESET, under the reference configuration and with nothing to be delivered: the
register values of R140, the parameters of R5 (log entries 2, 3 and 6 for the model's own fields). -/
def State.reset : State where
  bv := #v[0, 0, 0, 0, 0, 0]
  led := 0
  sub := 0
  cnt := 0
  ai := 0
  pinDir := 0b000#3
  pinOut := 0b000#3
  wires := Wires.idle
  config := referenceConfig
  stimulus := []

end Sys2Proof.Machine
end

