-- ==== Sys2Proof/Machine/Ops.lean ====
section
/-!
DEFINITION. The named operations: reads of the register file and the tables, the six micro-operations
as functions of the values they read (40_tick_and_scan.md R70), the writes of the registers, RESET,
and the fetch of the next word. The block takes no exception and returns from none (60_exceptions.md
R120, R126, R127), so no operation does.
-/

namespace Sys2Proof.Machine

/-! ### Reads -/

/-- `bv[led]` (R34): the one indexed read of the register file. U2 for an index above 5. -/
def readBv (bv : Vector Level 6) (led : LedIndex) : Except Refusal Level :=
  if h : led.toNat < 6 then .ok bv[led.toNat] else .error .ledOutOfRange

/-- `TOPO[led]` (R42). U2 for an index above 5. -/
def readTopo (t : Topology) (led : LedIndex) : Except Refusal LedPins :=
  if h : led.toNat < 6 then .ok t[led.toNat] else .error .ledOutOfRange

/-- `FRAME[n]` (R42). U5 for an index above 53. -/
def readFrame (f : FrameTable) (n : FrameIndex) : Except Refusal Level :=
  if h : n.toNat < 54 then .ok f[n.toNat] else .error .aiOutOfRange

/-! ### The micro-operations as functions of the values they read -/

/-- LOOKUP: the mask of the current LED's brightness (R71). -/
def lookupMask (t : MaskTable) (bv : Vector Level 6) (led : LedIndex) : Except Refusal Mask := do
  let L ← readBv bv led
  .ok (maskAt t L)

/-- BITSEL: is the current LED lit on this tick (R72)? U3 for `sub` above 8. -/
def selectBit (m : Mask) (sub : SubTick) : Except Refusal Bool :=
  if sub.toNat ≤ 8 then .ok (onCond m sub) else .error .subOutOfRange

/-- The two pin registers, written together (R80, D11). -/
structure PinPair where
  dir : PinReg
  out : PinReg
deriving DecidableEq, Repr

/-- What PIN_OFF writes (R81). -/
def pinsOff : PinPair := ⟨0b000#3, 0b000#3⟩

/-- What PIN_ON writes for an LED with the given pins (R52, R82 to R87). -/
def pinsOn (e : LedPins) : PinPair := ⟨onDir e, onOut e⟩

/-- PINCMD: PIN_ON(led) if `on`, else PIN_OFF (R80). -/
def choosePins (t : Topology) (isOn : Bool) (led : LedIndex) : Except Refusal PinPair :=
  if isOn then do
    let e ← readTopo t led
    .ok (pinsOn e)
  else .ok pinsOff

/-- The result of ADVANCE. -/
structure Cursor where
  led : LedIndex
  sub : SubTick
  wrap : Bool
deriving DecidableEq, Repr

/-- ADVANCE: the successor of the scan cursor (R90). U2 for `led` above 5, U3 for `sub` above 8. -/
def nextCursor (led : LedIndex) (sub : SubTick) : Except Refusal Cursor :=
  if 6 ≤ led.toNat then .error .ledOutOfRange
  else if 9 ≤ sub.toNat then .error .subOutOfRange
  else if wrapCond sub then .ok ⟨if led = lastLed then 0 else led + 1, 0, true⟩
  else .ok ⟨led, sub + 1, false⟩

/-- The result of COUNT. -/
structure Counted where
  cnt : TickCount
  fire : Bool
deriving DecidableEq, Repr

/-- COUNT: increment, compare, reload (R100). U4 for `cnt` above 749. -/
def nextCount (cnt : TickCount) : Except Refusal Counted :=
  if 750 ≤ cnt.toNat then .error .cntOutOfRange
  else if fireCond cnt then .ok ⟨0, true⟩
  else .ok ⟨cnt + 1, false⟩

/-- The result of ANIMATE. -/
structure Animated where
  bv : Vector Level 6
  ai : FrameIndex
deriving DecidableEq, Repr

/-- ANIMATE: the three mirrored pairs and the advance of the animation cursor (R110). U5 for `ai` above
53. -/
def nextAnimation (f : FrameTable) (ai : FrameIndex) : Except Refusal Animated := do
  let a := ai
  let b := nextFrame a
  let c := nextFrame b
  let fa ← readFrame f a
  let fb ← readFrame f b
  let fc ← readFrame f c
  .ok ⟨#v[fc, fc, fb, fb, fa, fa], nextFrame ai⟩

/-- Slot 5 of a tick: ANIMATE if `fire`, else `bv` and `ai` as they are (R56, R70). -/
def animateIf (fire : Bool) (f : FrameTable) (bv : Vector Level 6) (ai : FrameIndex) :
    Except Refusal Animated :=
  if fire then nextAnimation f ai else .ok ⟨bv, ai⟩

/-! ### Writes -/

/-- Both pin registers change together (R80, D11). -/
def State.withPins (s : State) (p : PinPair) : State :=
  { s with pinDir := p.dir, pinOut := p.out }

/-- The scan cursor moves (R90). -/
def State.withCursor (s : State) (led : LedIndex) (sub : SubTick) : State :=
  { s with led := led, sub := sub }

/-- The tick counter is written (R100). -/
def State.withCount (s : State) (cnt : TickCount) : State :=
  { s with cnt := cnt }

/-- All six brightness registers and the animation cursor are written together (R110, D25). -/
def State.withAnimation (s : State) (a : Animated) : State :=
  { s with bv := a.bv, ai := a.ai }

/-- The values inside a tick change; no register does. -/
def State.withWires (s : State) (w : Wires) : State :=
  { s with wires := w }

/-- The words still to be delivered change; no register does. -/
def State.withStimulus (s : State) (ws : List OpWord) : State :=
  { s with stimulus := ws }

/-- The parameters of the step change; no register does. No step uses this: it says, in statements, which
machine is meant. -/
def State.withConfig (s : State) (c : Config) : State :=
  { s with config := c }

/-- RESET: every register to its reset value (R140). The parameters are no registers, and the words the
host has yet to deliver are not the block's (log entry 20). -/
def State.resetRegisters (s : State) : State :=
  { s with
    bv := #v[0, 0, 0, 0, 0, 0]
    led := 0
    sub := 0
    cnt := 0
    ai := 0
    pinDir := 0b000#3
    pinOut := 0b000#3
    wires := Wires.idle }

/-! ### Whole events -/

/-- TICK: the six micro-operations in the order of R56, every one reading the state from before the tick
(R70). Nothing computed inside the tick survives it (R18). -/
def tickState (s : State) : Except Refusal State := do
  let mask ← lookupMask s.config.mask s.bv s.led
  let isOn ← selectBit mask s.sub
  let pins ← choosePins s.config.topo isOn s.led
  let cursor ← nextCursor s.led s.sub
  let counted ← nextCount s.cnt
  let anim ← animateIf counted.fire s.config.frame s.bv s.ai
  .ok (((((s.withPins pins).withCursor cursor.led cursor.sub).withCount counted.cnt).withAnimation
    anim).withWires Wires.idle)

/-- The outcome of an operation that gives a state or is refused. No operation faults (R120). -/
def toOutcome : Except Refusal State → Host.Outcome State Fault Refusal
  | .ok s => .next s
  | .error r => .refused r

/-- The refusal that a rejected word ends in (R57). -/
def refusalOf : DecodeError → Refusal
  | .unusedSlotCode => .unusedSlotCode
  | .unusedPinWord => .unusedPinWord

/-- The next operation and the state it runs in: the first delivered word is taken off the list and
decoded. With nothing delivered neither `rst` nor `tick` is set, which is the event word of HOLD (R50,
R73; log entry 3). A configuration outside the spec is refused (U10 to U12; log entry 10). -/
def fetch (s : State) : Except Refusal (Instr × State) :=
  if s.config.Ok then
    match s.stimulus with
    | [] => .ok (.hold, s)
    | w :: rest =>
      match decode s.config.topo w with
      | .ok i => .ok (i, s.withStimulus rest)
      | .error e => .error (refusalOf e)
  else .error .illFormedConfig

end Sys2Proof.Machine
end

