-- ==== Sys2Proof/Machine/Events.lean ====
section
/-!
DEFINITION. The meanings of format EV: RESET, TICK and HOLD.
-/

namespace Sys2Proof.Machine

/-- RESET (R140): in any state, reachable or not, every register takes its reset value. -/
def execReset (s : State) : Host.Outcome State Fault Refusal :=
  .next s.resetRegisters

/-- TICK (R70): one atomic transition made of the six micro-operations. -/
def execTick (s : State) : Host.Outcome State Fault Refusal :=
  toOutcome (tickState s)

/-- HOLD (R73): every register keeps its value. -/
def execHold (s : State) : Host.Outcome State Fault Refusal :=
  .next s

end Sys2Proof.Machine
end

