-- ==== Sys2Proof/Machine/MicroOps.lean ====
section
/-!
DEFINITION. The meanings of format UOP: the six micro-operations of a TICK, each run alone. A result
that R70 passes from one micro-operation to another goes through `wires` (log entry 6).
-/

namespace Sys2Proof.Machine

/-- LOOKUP (R71): writes no register; its result is the mask. -/
def execLookup (s : State) : Host.Outcome State Fault Refusal :=
  toOutcome do
    let m ← lookupMask s.config.mask s.bv s.led
    .ok (s.withWires { s.wires with mask := m })

/-- BITSEL (R72): writes no register; its result is `on`, from the mask LOOKUP left. -/
def execBitsel (s : State) : Host.Outcome State Fault Refusal :=
  toOutcome do
    let b ← selectBit s.wires.mask s.sub
    .ok (s.withWires { s.wires with isOn := b })

/-- PINCMD (R80): writes both pin registers, from the `on` BITSEL left and `led`. -/
def execPincmd (s : State) : Host.Outcome State Fault Refusal :=
  toOutcome do
    let p ← choosePins s.config.topo s.wires.isOn s.led
    .ok (s.withPins p)

/-- ADVANCE (R90): writes the scan cursor; `wrap` is used inside it only. -/
def execAdvance (s : State) : Host.Outcome State Fault Refusal :=
  toOutcome do
    let c ← nextCursor s.led s.sub
    .ok ((s.withCursor c.led c.sub).withWires { s.wires with wrap := c.wrap })

/-- COUNT (R100): writes the tick counter; its result is `fire`. -/
def execCount (s : State) : Host.Outcome State Fault Refusal :=
  toOutcome do
    let c ← nextCount s.cnt
    .ok ((s.withCount c.cnt).withWires { s.wires with fire := c.fire })

/-- ANIMATE (R110): writes the six brightness registers and the animation cursor. That it runs only when
`fire` is set is TICK's condition (R70), not a condition inside it (log entry 7). -/
def execAnimate (s : State) : Host.Outcome State Fault Refusal :=
  toOutcome do
    let a ← nextAnimation s.config.frame s.ai
    .ok (s.withAnimation a)

end Sys2Proof.Machine
end

