-- ==== Sys2Proof/Machine/PinCommands.lean ====
section
/-!
DEFINITION. The meanings of format PC: PIN_OFF and PIN_ON0 to PIN_ON5 (41_pin_sequencer.md R81 to R87),
each a write of both pin registers from the topology entry of its LED, or from nothing (R52).
-/

namespace Sys2Proof.Machine

/-- PIN_OFF (R81): all three pins undriven, both registers cleared (D10). -/
def execPinOff (s : State) : Host.Outcome State Fault Refusal :=
  .next (s.withPins pinsOff)

/-- PIN_ON0 (R82): light LED 0. -/
def execPinOn0 (s : State) : Host.Outcome State Fault Refusal :=
  .next (s.withPins (pinsOn s.config.topo[0]))

/-- PIN_ON1 (R83): light LED 1. -/
def execPinOn1 (s : State) : Host.Outcome State Fault Refusal :=
  .next (s.withPins (pinsOn s.config.topo[1]))

/-- PIN_ON2 (R84): light LED 2. -/
def execPinOn2 (s : State) : Host.Outcome State Fault Refusal :=
  .next (s.withPins (pinsOn s.config.topo[2]))

/-- PIN_ON3 (R85): light LED 3. -/
def execPinOn3 (s : State) : Host.Outcome State Fault Refusal :=
  .next (s.withPins (pinsOn s.config.topo[3]))

/-- PIN_ON4 (R86): light LED 4. -/
def execPinOn4 (s : State) : Host.Outcome State Fault Refusal :=
  .next (s.withPins (pinsOn s.config.topo[4]))

/-- PIN_ON5 (R87): light LED 5. -/
def execPinOn5 (s : State) : Host.Outcome State Fault Refusal :=
  .next (s.withPins (pinsOn s.config.topo[5]))

end Sys2Proof.Machine
end

