-- ==== Sys2Proof/Machine/Dispatch.lean ====
section
/-!
DEFINITION. exec: one arm per constructor of Instr, each a call of its meaning.
-/

namespace Sys2Proof.Machine

def exec (i : Instr) (s : State) : Host.Outcome State Fault Refusal :=
  match i with
  | .reset => Sys2Proof.Machine.execReset s
  | .tick => Sys2Proof.Machine.execTick s
  | .hold => Sys2Proof.Machine.execHold s
  | .lookup => Sys2Proof.Machine.execLookup s
  | .bitsel => Sys2Proof.Machine.execBitsel s
  | .pincmd => Sys2Proof.Machine.execPincmd s
  | .advance => Sys2Proof.Machine.execAdvance s
  | .count => Sys2Proof.Machine.execCount s
  | .animate => Sys2Proof.Machine.execAnimate s
  | .pinOff => Sys2Proof.Machine.execPinOff s
  | .pinOn0 => Sys2Proof.Machine.execPinOn0 s
  | .pinOn1 => Sys2Proof.Machine.execPinOn1 s
  | .pinOn2 => Sys2Proof.Machine.execPinOn2 s
  | .pinOn3 => Sys2Proof.Machine.execPinOn3 s
  | .pinOn4 => Sys2Proof.Machine.execPinOn4 s
  | .pinOn5 => Sys2Proof.Machine.execPinOn5 s

end Sys2Proof.Machine
end

