-- ==== Sys2Proof/Machine/Step.lean ====
section
/-!
DEFINITION. One step: the next delivered word is fetched, decoded and run. A step is one event of the
block (00_scope.md R8), or one operation run alone (log entry 4).
-/

namespace Sys2Proof.Machine

/-- One step of the machine. -/
def step (s : State) : Host.Outcome State Fault Refusal :=
  match fetch s with
  | .ok (i, t) => exec i t
  | .error r => .refused r

/-- `s` with the instruction of an opcode table row put where the next step fetches: in front of the words
still to be delivered. A pin word is written for the topology of `s` (R52; log entries 3 and 5). -/
def State.withFetchWord (s : State) (nbits w : Nat) : State :=
  match tableWord nbits w with
  | some ow => s.withStimulus (relabel s.config.topo ow :: s.stimulus)
  | none => s

end Sys2Proof.Machine
end

