-- ==== Sys2Proof/Machine/Observe.lean ====
section
/-!
DEFINITION. What the host can see of a state, and the spec's own views of it: the pin word (R51), the
observation function lit (41_pin_sequencer.md R88), the intermediate words of a serial implementation
(70_reset_and_hazards.md R147), the 53-bit layout and the printed form (30_encoding.md R55), and the
durations that follow from the tick rate (R152). No operation uses any of them.
-/

namespace Sys2Proof.Machine

/-- The pin word the block puts out (R51). -/
def State.pinWord (s : State) : PinWord :=
  joinPins s.pinDir s.pinOut

/-- Is LED `j` lit by these pin registers? Its anode pin is an output driven high and its cathode pin an
output driven low (R88, D21). -/
def lit (t : Topology) (dir out : PinReg) (j : Fin 6) : Bool :=
  dir.getLsbD (pinBit t[j].anode) && out.getLsbD (pinBit t[j].anode) &&
    dir.getLsbD (pinBit t[j].cathode) && !out.getLsbD (pinBit t[j].cathode)

/-- `lit` in a state (R88). -/
def State.isLit (s : State) (j : Fin 6) : Bool :=
  lit s.config.topo s.pinDir s.pinOut j

/-- The number of set bits of a pin register. -/
def pinCount (r : PinReg) : Nat :=
  ((List.range 3).filter fun b => r.getLsbD b).length

/-- The pins driven high: outputs whose level bit is 1 (R51). -/
def drivenHigh (p : PinPair) : PinReg :=
  p.dir &&& p.out

/-- The intermediate pin registers of a serial implementation that writes the direction first (R147). No
state of the model has them. -/
def directionFirst (old new : PinPair) : PinPair := ⟨new.dir, old.out⟩

/-- The intermediate pin registers of a serial implementation that writes the level first (R147). -/
def levelFirst (old new : PinPair) : PinPair := ⟨old.dir, new.out⟩

/-- The twelve registers as one 53-bit vector, `bv[5]` most significant (R55). -/
def State.packed (s : State) : BitVec 53 :=
  s.bv[5] ++ s.bv[4] ++ s.bv[3] ++ s.bv[2] ++ s.bv[1] ++ s.bv[0] ++ s.led ++ s.sub ++ s.cnt ++ s.ai ++
    s.pinDir ++ s.pinOut

/-- The twelve registers of `s` replaced by those of a 53-bit vector (R55). -/
def State.withPacked (s : State) (v : BitVec 53) : State :=
  { s with
    bv := #v[v.extractLsb' 29 4, v.extractLsb' 33 4, v.extractLsb' 37 4, v.extractLsb' 41 4,
      v.extractLsb' 45 4, v.extractLsb' 49 4]
    led := v.extractLsb' 26 3
    sub := v.extractLsb' 22 4
    cnt := v.extractLsb' 12 10
    ai := v.extractLsb' 6 6
    pinDir := v.extractLsb' 3 3
    pinOut := v.extractLsb' 0 3 }

/-- A bit as a digit. -/
def bitDigit (b : Bool) : String := if b then "1" else "0"

/-- A pin register in binary, most significant digit first (R6). -/
def pinDigits (r : PinReg) : String :=
  bitDigit (r.getLsbD 2) ++ bitDigit (r.getLsbD 1) ++ bitDigit (r.getLsbD 0)

/-- The printed form of the twelve registers (R55). -/
def State.printed (s : State) : String :=
  "bv=[" ++ String.intercalate "," (s.bv.toList.map fun v => toString v.toNat) ++
    "] led=" ++ toString s.led.toNat ++ " sub=" ++ toString s.sub.toNat ++
    " cnt=" ++ toString s.cnt.toNat ++ " ai=" ++ toString s.ai.toNat ++
    " pins=" ++ pinDigits s.pinDir ++ pinDigits s.pinOut

/-- The duration of `n` ticks in microseconds at the configured tick rate, rounded down (R152). -/
def ticksToMicros (c : Config) (n : Nat) : Nat :=
  n * 1000000 / c.fTickHz

/-- Full scans of 54 ticks in a second at the configured tick rate, rounded down (R152). -/
def scansPerSecond (c : Config) : Nat :=
  c.fTickHz / 54

end Sys2Proof.Machine
end

