-- ==== Sys2Proof/Machine/Stimulus.lean ====
section
/-!
DEFINITION. Stimuli: the notation of 30_encoding.md R58, the expansion of its pseudo-operations (R59),
and the observation of a program: the pin word after each event, and the final state.
-/

namespace Sys2Proof.Machine

/-- One line of a stimulus (R58, R59). `reset true` is RESET with `tick` set. -/
inductive StimLine where
  | reset (tickLine : Bool)
  | tick
  | hold
  /-- `TICK*n`. -/
  | tickTimes (n : Nat)
  /-- `HOLD*n`. -/
  | holdTimes (n : Nat)
  /-- `SCAN`: one full scan cycle. -/
  | scan
  /-- `FRAME`: the ticks from one animator step to the next. -/
  | frame
  /-- `PERIOD`: one period of the whole state. -/
  | period
deriving DecidableEq, Repr

/-- The event words of a line (R50, R59). -/
def StimLine.words : StimLine → List EventWord
  | .reset tickLine => [if tickLine then 0b11#2 else 0b10#2]
  | .tick => [0b01#2]
  | .hold => [0b00#2]
  | .tickTimes n => List.replicate n 0b01#2
  | .holdTimes n => List.replicate n 0b00#2
  | .scan => List.replicate 54 0b01#2
  | .frame => List.replicate 750 0b01#2
  | .period => List.replicate 40500 0b01#2

/-- A stimulus: an optional start state and its lines (R58). -/
structure Stimulus where
  start : Option State
  lines : List StimLine
deriving DecidableEq, Repr

/-- The encoding of a stimulus: the sequence of its event words (R58). -/
def Stimulus.words (p : Stimulus) : List EventWord :=
  p.lines.flatMap StimLine.words

/-- The state a stimulus starts in, its words delivered: the reset state where none is given (R58, R141). -/
def Stimulus.initial (p : Stimulus) : State :=
  (p.start.getD State.reset).withStimulus (p.words.map OpWord.ev)

/-- The next state of an outcome, or why there is none. There is no fault (R120). -/
def resultOf : Host.Outcome State Fault Refusal → Except Refusal State
  | .next s => .ok s
  | .fault e => nomatch e
  | .refused r => .error r

/-- The observation of `n` steps: the pin word after each, and the final state (R58, R143). -/
def observe : Nat → State → Except Refusal (List PinWord × State)
  | 0, s => .ok ([], s)
  | n + 1, s => do
    let t ← resultOf (step s)
    let rest ← observe n t
    .ok (t.pinWord :: rest.1, rest.2)

/-- The observation of a stimulus: one step for each of its event words (R58). -/
def Stimulus.observation (p : Stimulus) : Except Refusal (List PinWord × State) :=
  observe p.words.length p.initial

end Sys2Proof.Machine
end

