-- ==== Sys2Proof/Safety.lean ====
section
/-!
DEFINITION. The vocabulary of the claims: the legal ranges and the invariants of 10_state.md R21, what
the hardware's host can deliver, the linear position of the cursor (R14), runs of TICKs, and the slot
sequence of a TICK (30_encoding.md R56).
-/

namespace Sys2Proof.Machine

/-- R21 items 2 to 5: the indices are in their legal ranges. -/
abbrev InRange (s : State) : Prop :=
  s.led.toNat ≤ 5 ∧ s.sub.toNat ≤ 8 ∧ s.cnt.toNat ≤ 749 ∧ s.ai.toNat ≤ 53

/-- R21 item 1: every brightness is a level. -/
abbrev LegalLevels (s : State) : Prop :=
  ∀ k : Fin 6, s.bv[k].toNat ≤ 8

/-- R21 item 6: the pin word is one of the seven of R52. -/
abbrev LegalPins (s : State) : Prop :=
  s.pinWord ∈ legalPinWords

/-- R21 item 7: the brightness registers are equal in pairs. -/
abbrev Paired (s : State) : Prop :=
  s.bv[0] = s.bv[1] ∧ s.bv[2] = s.bv[3] ∧ s.bv[4] = s.bv[5]

/-- The invariants of the reachable state, R21 items 1 to 7. -/
abbrev Legal (s : State) : Prop :=
  LegalLevels s ∧ InRange s ∧ LegalPins s ∧ Paired s

/-- Only event words remain to be delivered: what the hardware's host can do (R50, R57). -/
abbrev EventsOnly (s : State) : Prop :=
  ∀ w ∈ s.stimulus, w.isEvent = true

/-- The linear form of the scan cursor (R14). -/
def position (s : State) : Nat :=
  s.led.toNat * 9 + s.sub.toNat

/-- The state of an outcome, put through `f`; a stop stays a stop. -/
def andThen (o : Host.Outcome State Fault Refusal) (f : State → Host.Outcome State Fault Refusal) :
    Host.Outcome State Fault Refusal :=
  match o with
  | .next s => f s
  | .fault e => .fault e
  | .refused r => .refused r

/-- `n` TICKs in a row, stopping at the first refusal. -/
def ticks : Nat → State → Host.Outcome State Fault Refusal
  | 0, s => .next s
  | n + 1, s => andThen (exec .tick s) (ticks n)

/-- `n` steps in a row, stopping at the first refusal (R58). -/
def steps : Nat → State → Host.Outcome State Fault Refusal
  | 0, s => .next s
  | n + 1, s => andThen (step s) (steps n)

/-- On how many of the next `n` TICKs is the pin word `w`? -/
def ticksShowing (w : PinWord) : Nat → State → Nat
  | 0, _ => 0
  | n + 1, s =>
    match exec .tick s with
    | .next t => (if t.pinWord = w then 1 else 0) + ticksShowing w n t
    | .fault _ => 0
    | .refused _ => 0

/-- The micro-operations in the order of the slots (R56), each run alone, ANIMATE only if COUNT's strobe
is set; what they computed is then forgotten (R18). -/
def runSlots (s : State) : Host.Outcome State Fault Refusal :=
  andThen (exec .lookup s) fun s1 =>
  andThen (exec .bitsel s1) fun s2 =>
  andThen (exec .pincmd s2) fun s3 =>
  andThen (exec .advance s3) fun s4 =>
  andThen (exec .count s4) fun s5 =>
  andThen (if s5.wires.fire then exec .animate s5 else .next s5) fun s6 =>
  .next (s6.withWires Wires.idle)

/-- `FRAME[x mod 54]`, the `F(x)` of R112. -/
def frameAt (f : FrameTable) (x : Nat) : Level :=
  f[x % 54]'(Nat.mod_lt x (by decide))

end Sys2Proof.Machine
end

