-- ==== Sys2Proof/Certificates/Slice0/Obligations.lean ====
section
/-!
DEFINITION. The statements for the provers. Each docstring names the rule or section of spec/ it
formalises. Where a clause rests on a field of the model's own (`wires`, `config`, `stimulus`), the
docstring names the log entry.
-/

open Sys2Proof Sys2Proof.Machine

/-! ### Encoding -/

/-- 30_encoding.md sections 1 to 6: under every topology the spec admits, the word of each of the sixteen
operations decodes to that operation. -/
def Obligations.DecodeInvertsEncode : Prop :=
  ∀ t : Topology, TopologyOk t → ∀ i : Instr, decode t (encode t i) = .ok i

/-- 30_encoding.md sections 2, 3, 5: a word that decodes is the operation's one word, but for RESET,
which has the second word 11 (`1t`). -/
def Obligations.DecodedWordIsTheEncodedWord : Prop :=
  ∀ (t : Topology) (w : OpWord) (i : Instr), decode t w = .ok i →
    w = encode t i ∨ (i = .reset ∧ w = .ev 0b11#2)

/-- 30_encoding.md section 2 (R50, decision D3): every one of the four event words is defined. -/
def Obligations.EventWordsAreAllDefined : Prop :=
  ∀ t : Topology,
    decode t (.ev 0b00#2) = .ok .hold ∧ decode t (.ev 0b01#2) = .ok .tick ∧
    decode t (.ev 0b10#2) = .ok .reset ∧ decode t (.ev 0b11#2) = .ok .reset

/-- spec/opcode_table.json, 30_encoding.md R52 and R56: words written out from the spec's tables, the pin
words under TOPO_REF. -/
def Obligations.TableWordsDecodeToTheirRows : Prop :=
  decode topoRef (.uop 0b000#3) = .ok .lookup ∧ decode topoRef (.uop 0b001#3) = .ok .bitsel ∧
  decode topoRef (.uop 0b010#3) = .ok .pincmd ∧ decode topoRef (.uop 0b011#3) = .ok .advance ∧
  decode topoRef (.uop 0b100#3) = .ok .count ∧ decode topoRef (.uop 0b101#3) = .ok .animate ∧
  decode topoRef (.pc 0b000000#6) = .ok .pinOff ∧ decode topoRef (.pc 0b011001#6) = .ok .pinOn0 ∧
  decode topoRef (.pc 0b011010#6) = .ok .pinOn1 ∧ decode topoRef (.pc 0b110010#6) = .ok .pinOn2 ∧
  decode topoRef (.pc 0b110100#6) = .ok .pinOn3 ∧ decode topoRef (.pc 0b101100#6) = .ok .pinOn4 ∧
  decode topoRef (.pc 0b101001#6) = .ok .pinOn5

/-- 30_encoding.md sections 3 and 6 (R52, R57): which words are in use does not depend on the topology:
the four event words, slot codes 000 to 101, and the seven pin words. -/
def Obligations.WordsInUseAreTheSameForEveryTopology : Prop :=
  ∀ t : Topology, TopologyOk t → ∀ w : OpWord, w.ok = true ↔ ∃ i, decode t w = .ok i

/-- 30_encoding.md section 4 (R53): a topology entry's 4-bit code gives the entry back, and a code with a
pin code of 3 in it is no entry. -/
def Obligations.TopologyEntryCodesRoundTrip : Prop :=
  (∀ e : LedPins, decodeTopoEntry (encodeTopoEntry e) = some e) ∧
  ∀ w : BitVec 4, (w.extractLsb' 2 2 = 3 ∨ w.extractLsb' 0 2 = 3) → decodeTopoEntry w = none

/-- 30_encoding.md R55: the 53-bit vector holds the twelve registers, and nothing else of the state. -/
def Obligations.PackedStateRoundTrip : Prop :=
  (∀ s : State, s.withPacked s.packed = s) ∧
  ∀ (s : State) (v : BitVec 53), (s.withPacked v).packed = v

/-! ### The step -/

/-- 00_scope.md R8 and 30_encoding.md R58: where the first delivered word decodes to an operation, a step is
that operation, with the word taken. The list of delivered words is the model's (log entry 3), and so is
that a step runs a word of the formats UOP and PC alone (log entry 4): the hardware's host delivers event
words only (R57). -/
def Obligations.StepRunsTheDeliveredWord : Prop :=
  ∀ (s : State) (w : OpWord) (rest : List OpWord) (i : Instr),
    s.config.Ok → s.stimulus = w :: rest → decode s.config.topo w = .ok i →
    step s = exec i { s with stimulus := rest }

/-- 40_tick_and_scan.md section 4 (R73); that an empty list is event word 00 is the model's choice (log
entry 3). -/
def Obligations.StepWithoutAnEventHolds : Prop :=
  ∀ s : State, s.config.Ok → s.stimulus = [] → step s = .next s

/-- 30_encoding.md section 6 (R57) and 93_implementation_defined.md U10 to U12: what is refused before
any operation runs (log entries 4 and 10). -/
def Obligations.StepRefusesWhatIsNoOperation : Prop :=
  ∀ s : State,
    (¬s.config.Ok → step s = .refused .illFormedConfig) ∧
    (∀ (w : SlotCode) (rest : List OpWord), s.config.Ok → s.stimulus = .uop w :: rest → 6 ≤ w.toNat →
      step s = .refused .unusedSlotCode) ∧
    (∀ (w : PinWord) (rest : List OpWord), s.config.Ok → s.stimulus = .pc w :: rest →
      w ∉ legalPinWords → step s = .refused .unusedPinWord)

/-- 60_exceptions.md section 3 (R125, decision D3): with `rst` set the event is RESET, whatever `tick` is;
the tick is dropped. The clause on `stimulus` is the model's: the list of delivered words (log entry 3), of
which RESET leaves the undelivered rest (log entry 20). -/
def Obligations.ResetOutranksTick : Prop :=
  ∀ (s : State) (w : EventWord) (rest : List OpWord),
    s.config.Ok → s.stimulus = .ev w :: rest → w.getLsbD 1 = true →
    ∃ t, step s = .next t ∧ t.led = 0 ∧ t.sub = 0 ∧ t.cnt = 0 ∧ t.ai = 0 ∧
      t.bv = #v[0, 0, 0, 0, 0, 0] ∧ t.pinDir = 0b000#3 ∧ t.pinOut = 0b000#3 ∧ t.stimulus = rest

/-! ### The events -/

/-- 70_reset_and_hazards.md section 1 (R140, decision D12): from any state, reachable or not, every
register is 0 after RESET. The last three clauses are about the model's own fields (log entries 1, 3,
6, 20). -/
def Obligations.ResetPutsEveryRegisterToZero : Prop :=
  ∀ s : State, ∃ t, exec .reset s = .next t ∧
    (∀ k : Fin 6, t.bv[k] = 0) ∧ t.led = 0 ∧ t.sub = 0 ∧ t.cnt = 0 ∧ t.ai = 0 ∧
    t.pinDir = 0b000#3 ∧ t.pinOut = 0b000#3 ∧
    t.wires = Wires.idle ∧ t.config = s.config ∧ t.stimulus = s.stimulus

/-- 40_tick_and_scan.md section 4 (R73, decision D3): HOLD keeps every register, the pin registers
included. -/
def Obligations.HoldKeepsEveryRegister : Prop :=
  ∀ s : State, exec .hold s = .next s

/-- 40_tick_and_scan.md sections 1 to 3 and 41_pin_sequencer.md section 1 (R70, R71, R72, R80; decisions
D7, D10, D14): the pin registers after a TICK come from the brightness, the cursor and the tables before
it. The last clause: nothing computed inside the tick survives it (R18; log entries 1, 3, 6). -/
def Obligations.TickDrivesThePinsOfTheOldCursor : Prop :=
  ∀ (s : State) (_ : s.led.toNat < 6) (_ : s.sub.toNat < 9) (_ : s.cnt.toNat < 750)
    (_ : s.ai.toNat < 54),
    ∃ t, exec .tick s = .next t ∧
      (if s.sub.toNat ≤ 7 ∧
          (s.config.mask[min (s.bv[s.led.toNat]).toNat 8]).getLsbD s.sub.toNat = true
        then t.pinDir = onehot (s.config.topo[s.led.toNat]).anode |||
              onehot (s.config.topo[s.led.toNat]).cathode ∧
            t.pinOut = onehot (s.config.topo[s.led.toNat]).anode
        else t.pinDir = 0b000#3 ∧ t.pinOut = 0b000#3) ∧
      t.wires = Wires.idle ∧ t.config = s.config ∧ t.stimulus = s.stimulus

/-- 42_cursor_sequencer.md section 1 (R90): every TICK moves the scan cursor to its successor, the sub-tick
first, wrapping after 8, then the LED, wrapping after 5; `led` moves only on the blank tick. That the tick
at `sub` = 8 is the blank one and its pin word is 000000 rests on the spec's own decisions D7 (the blank
tick is the last) and D10 (PIN_OFF clears the level register too; log entry 9). -/
def Obligations.TickMovesTheScanCursor : Prop :=
  ∀ (s : State), s.led.toNat < 6 → s.sub.toNat < 9 → s.cnt.toNat < 750 → s.ai.toNat < 54 →
    ∃ t, exec .tick s = .next t ∧
      (if s.sub.toNat = 8
        then t.sub = 0 ∧ t.led = (if s.led = 5 then 0 else s.led + 1) ∧ t.pinWord = 0b000000#6
        else t.sub = s.sub + 1 ∧ t.led = s.led)

/-- R100: every TICK increments the tick counter, and where the incremented counter is 750 stores 0 and
invokes the animator in the same tick; on every other tick the animator does not run. -/
def Obligations.TickCountsAndFiresAt750 : Prop :=
  ∀ (s : State), s.led.toNat < 6 → s.sub.toNat < 9 → s.cnt.toNat < 750 → s.ai.toNat < 54 →
    ∃ t, exec .tick s = .next t ∧
      (if s.cnt.toNat + 1 = 750
        then t.cnt = 0 ∧
          t.bv = #v[frameAt s.config.frame (s.ai.toNat + 2), frameAt s.config.frame (s.ai.toNat + 2),
            frameAt s.config.frame (s.ai.toNat + 1), frameAt s.config.frame (s.ai.toNat + 1),
            frameAt s.config.frame s.ai.toNat, frameAt s.config.frame s.ai.toNat] ∧
          t.ai.toNat = (s.ai.toNat + 1) % 54
        else t.cnt.toNat = s.cnt.toNat + 1 ∧ t.bv = s.bv ∧ t.ai = s.ai)

/-! ### The micro-operations, each run alone (log entries 4 and 6) -/

/-- 40_tick_and_scan.md section 2 (R71, decision D14): LOOKUP gives `MASK[min(bv[led], 8)]` and writes no
register. Where the result is kept is the model's (log entry 6). -/
def Obligations.LookupFetchesTheMask : Prop :=
  ∀ (s : State) (_ : s.led.toNat < 6),
    exec .lookup s = .next { s with
      wires := { s.wires with mask := s.config.mask[min (s.bv[s.led.toNat]).toNat 8] } }

/-- 40_tick_and_scan.md section 3 (R72, decision D7): BITSEL gives bit `sub` of the mask on sub-ticks 0 to
7 and 0 on the blank tick, and writes no register. Where the mask comes from and the result is kept is
the model's (log entry 6). -/
def Obligations.BitselSelectsTheMaskBit : Prop :=
  ∀ s : State, s.sub.toNat ≤ 8 →
    exec .bitsel s = .next { s with
      wires := { s.wires with
        isOn := if s.sub.toNat ≤ 7 then s.wires.mask.getLsbD s.sub.toNat else false } }

/-- 41_pin_sequencer.md section 1 (R80, decisions D10, D11): PINCMD writes both pin registers and nothing
else: PIN_ON(led) where `on` is set, PIN_OFF where it is not. That PINCMD with `on` clear runs whatever
`led` is, 6 and 7 included, is the model's reading (log entry 8), and where `on` comes from is the model's
choice (log entry 6). -/
def Obligations.PincmdIssuesOnePinCommand : Prop :=
  (∀ (s : State) (_ : s.led.toNat < 6), s.wires.isOn = true →
    exec .pincmd s = .next { s with
      pinDir := onehot (s.config.topo[s.led.toNat]).anode |||
        onehot (s.config.topo[s.led.toNat]).cathode
      pinOut := onehot (s.config.topo[s.led.toNat]).anode }) ∧
  ∀ s : State, s.wires.isOn = false →
    exec .pincmd s = .next { s with pinDir := 0b000#3, pinOut := 0b000#3 }

/-- 42_cursor_sequencer.md section 1 (R90): ADVANCE writes the scan cursor and nothing else. Where `wrap`
is kept is the model's (log entry 6). -/
def Obligations.AdvanceWritesTheCursorOnly : Prop :=
  ∀ s : State, s.led.toNat < 6 → s.sub.toNat < 9 →
    exec .advance s = .next { s with
      led := if s.sub = 8 then (if s.led = 5 then 0 else s.led + 1) else s.led
      sub := if s.sub = 8 then 0 else s.sub + 1
      wires := { s.wires with wrap := decide (s.sub = 8) } }

/-- 43_tick_counter.md section 1 (R100): COUNT writes the tick counter and nothing else. Where `fire` is
kept is the model's (log entry 6). -/
def Obligations.CountWritesTheCounterOnly : Prop :=
  ∀ s : State, s.cnt.toNat < 750 →
    exec .count s = .next { s with
      cnt := if s.cnt.toNat = 749 then 0 else s.cnt + 1
      wires := { s.wires with fire := decide (s.cnt.toNat = 749) } }

/-- 44_animator.md section 1 (R110): ANIMATE writes the six brightness registers from three successive frame
table entries, in three mirrored pairs, and the animation cursor, and nothing else. That ANIMATE run alone
does so whatever `fire` is, is the model's reading (log entry 7). -/
def Obligations.AnimateWritesThreeMirroredPairs : Prop :=
  ∀ s : State, s.ai.toNat < 54 →
    exec .animate s = .next { s with
      bv := #v[frameAt s.config.frame (s.ai.toNat + 2), frameAt s.config.frame (s.ai.toNat + 2),
        frameAt s.config.frame (s.ai.toNat + 1), frameAt s.config.frame (s.ai.toNat + 1),
        frameAt s.config.frame s.ai.toNat, frameAt s.config.frame s.ai.toNat]
      ai := BitVec.ofNat 6 ((s.ai.toNat + 1) % 54) }

/-- 44_animator.md section 2 (R114): every value ANIMATE writes is a frame table entry, so it is a level in
0..8 where the table is one the spec admits. That ANIMATE run alone writes whatever `fire` is, is the
model's reading (log entry 7). -/
def Obligations.AnimateWritesFrameEntriesOnly : Prop :=
  ∀ s : State, FrameOk s.config.frame → s.ai.toNat < 54 →
    ∃ t, exec .animate s = .next t ∧
      ∀ k : Fin 6, (∃ n : Fin 54, t.bv[k] = s.config.frame[n]) ∧ t.bv[k].toNat ≤ 8

/-- R114: every value the animator writes in a TICK that fires is a frame table entry, so it is a level in
0..8 where every entry of the table is. -/
def Obligations.AnimatorOfATickWritesLevels : Prop :=
  ∀ s : State, FrameOk s.config.frame →
    s.led.toNat < 6 → s.sub.toNat < 9 → s.cnt.toNat + 1 = 750 → s.ai.toNat < 54 →
    ∃ t, exec .tick s = .next t ∧
      ∀ k : Fin 6, (∃ n : Fin 54, t.bv[k] = s.config.frame[n]) ∧ t.bv[k].toNat ≤ 8

/-! ### The pin commands -/

/-- 41_pin_sequencer.md section 2 (R81, decision D10): PIN_OFF clears both pin registers and writes nothing
else. -/
def Obligations.PinOffClearsBothRegisters : Prop :=
  ∀ s : State, exec .pinOff s = .next { s with pinDir := 0b000#3, pinOut := 0b000#3 }

/-- 41_pin_sequencer.md section 2 (R82 to R87): PIN_ON0 to PIN_ON5 make the anode and the cathode pin of
their LED outputs, drive the anode high, and write nothing else. -/
def Obligations.PinOnDrivesItsLed : Prop :=
  ∀ s : State,
    exec .pinOn0 s = .next { s with
      pinDir := onehot s.config.topo[0].anode ||| onehot s.config.topo[0].cathode
      pinOut := onehot s.config.topo[0].anode } ∧
    exec .pinOn1 s = .next { s with
      pinDir := onehot s.config.topo[1].anode ||| onehot s.config.topo[1].cathode
      pinOut := onehot s.config.topo[1].anode } ∧
    exec .pinOn2 s = .next { s with
      pinDir := onehot s.config.topo[2].anode ||| onehot s.config.topo[2].cathode
      pinOut := onehot s.config.topo[2].anode } ∧
    exec .pinOn3 s = .next { s with
      pinDir := onehot s.config.topo[3].anode ||| onehot s.config.topo[3].cathode
      pinOut := onehot s.config.topo[3].anode } ∧
    exec .pinOn4 s = .next { s with
      pinDir := onehot s.config.topo[4].anode ||| onehot s.config.topo[4].cathode
      pinOut := onehot s.config.topo[4].anode } ∧
    exec .pinOn5 s = .next { s with
      pinDir := onehot s.config.topo[5].anode ||| onehot s.config.topo[5].cathode
      pinOut := onehot s.config.topo[5].anode }

/-- 30_encoding.md section 3 and 41_pin_sequencer.md section 2 (decisions D8, D9): the pin words of the
six PIN_ON commands under TOPO_REF. -/
def Obligations.ReferencePinWordsAreThoseOfTheTable : Prop :=
  ∀ s : State, s.config.topo = topoRef →
    (∃ t, exec .pinOn0 s = .next t ∧ t.pinWord = 0b011001#6) ∧
    (∃ t, exec .pinOn1 s = .next t ∧ t.pinWord = 0b011010#6) ∧
    (∃ t, exec .pinOn2 s = .next t ∧ t.pinWord = 0b110010#6) ∧
    (∃ t, exec .pinOn3 s = .next t ∧ t.pinWord = 0b110100#6) ∧
    (∃ t, exec .pinOn4 s = .next t ∧ t.pinWord = 0b101100#6) ∧
    (∃ t, exec .pinOn5 s = .next t ∧ t.pinWord = 0b101001#6)

/-! ### Where an operation stops -/

/-- 93_implementation_defined.md U2 (log entry 8): `led` in 6..7 is refused where an operation uses it. -/
def Obligations.LedOutOfRangeIsRefused : Prop :=
  ∀ s : State, 6 ≤ s.led.toNat →
    exec .lookup s = .refused .ledOutOfRange ∧ exec .advance s = .refused .ledOutOfRange ∧
    exec .tick s = .refused .ledOutOfRange ∧
    (s.wires.isOn = true → exec .pincmd s = .refused .ledOutOfRange)

/-- 93_implementation_defined.md U3 (log entry 8): `sub` in 9..15 is refused where an operation uses it. -/
def Obligations.SubOutOfRangeIsRefused : Prop :=
  ∀ s : State, 9 ≤ s.sub.toNat →
    exec .bitsel s = .refused .subOutOfRange ∧
    (s.led.toNat < 6 → exec .advance s = .refused .subOutOfRange ∧
      exec .tick s = .refused .subOutOfRange)

/-- 93_implementation_defined.md U4 (log entry 8): `cnt` in 750..1023 is refused where an operation uses
it. -/
def Obligations.CntOutOfRangeIsRefused : Prop :=
  ∀ s : State, 750 ≤ s.cnt.toNat →
    exec .count s = .refused .cntOutOfRange ∧
    (s.led.toNat < 6 → s.sub.toNat < 9 → exec .tick s = .refused .cntOutOfRange)

/-- 93_implementation_defined.md U5 (log entry 8): `ai` in 54..63 is refused where an operation uses it,
which a TICK does only when it fires; and no other operation, and neither of the two in another case, is
refused for it. -/
def Obligations.AiOutOfRangeIsRefused : Prop :=
  (∀ s : State, 54 ≤ s.ai.toNat →
    exec .animate s = .refused .aiOutOfRange ∧
    (s.led.toNat < 6 → s.sub.toNat < 9 → s.cnt.toNat = 749 →
      exec .tick s = .refused .aiOutOfRange) ∧
    (s.led.toNat < 6 → s.sub.toNat < 9 → s.cnt.toNat < 749 →
      ∃ t, exec .tick s = .next t ∧ t.ai = s.ai ∧ t.bv = s.bv)) ∧
  ∀ (i : Instr) (s : State), exec i s = .refused .aiOutOfRange →
    54 ≤ s.ai.toNat ∧ (i = .animate ∨ (i = .tick ∧ s.cnt.toNat = 749))

/-! ### The tick as a whole -/

/-- 40_tick_and_scan.md section 1 and 30_encoding.md section 5 (R70, R56): a TICK is the six
micro-operations in the order of the slots, ANIMATE only if COUNT's strobe is set. It holds in every
state, and where a TICK stops, the sequence stops for the same reason. -/
def Obligations.TickIsTheSlotSequence : Prop :=
  ∀ s : State, runSlots s = exec .tick s

/-- 30_encoding.md section 5 (R56): ADVANCE and COUNT touch disjoint registers and commute. -/
def Obligations.AdvanceAndCountCommute : Prop :=
  ∀ s : State, s.led.toNat < 6 → s.sub.toNat < 9 → s.cnt.toNat < 750 →
    ∃ t, andThen (exec .advance s) (exec .count) = .next t ∧
      andThen (exec .count s) (exec .advance) = .next t

/-- 10_state.md section 1 and 60_exceptions.md section 5 (R10's column of writers, R130): a register
changes only under its writers, for every operation in every state. The last three clauses are about the
model's own fields and no part of R10: `wires` (log entry 6), `config` (log entry 1), and `stimulus` (log
entry 3), which RESET leaves too (log entry 20). -/
def Obligations.OnlyItsWritersChangeARegister : Prop :=
  ∀ (i : Instr) (s t : State), exec i s = .next t →
    (i ∉ [Instr.animate, .tick, .reset] → t.bv = s.bv ∧ t.ai = s.ai) ∧
    (i ∉ [Instr.advance, .tick, .reset] → t.led = s.led ∧ t.sub = s.sub) ∧
    (i ∉ [Instr.count, .tick, .reset] → t.cnt = s.cnt) ∧
    (i.format ≠ .pc → i ∉ [Instr.pincmd, .tick, .reset] →
      t.pinDir = s.pinDir ∧ t.pinOut = s.pinOut) ∧
    (i ∈ [Instr.hold, .pincmd, .animate] ∨ i.format = .pc → t.wires = s.wires) ∧
    t.config = s.config ∧ t.stimulus = s.stimulus

/-- 10_state.md section 8 (R21): the reset state satisfies the seven invariants, under a configuration the
spec admits. -/
def Obligations.ResetStateIsLegal : Prop :=
  Legal State.reset ∧ State.reset.config.Ok ∧ EventsOnly State.reset ∧ State.reset.wires = Wires.idle

/-- 10_state.md section 8 (R21): every step keeps the seven invariants, whatever is delivered. -/
def Obligations.EveryStepKeepsTheStateLegal : Prop :=
  ∀ s t : State, Legal s → step s = .next t → Legal t

/-- 60_exceptions.md sections 1 and 2 and 70_reset_and_hazards.md section 2 (R120, R122, R143): in a legal
state, with event words only, every step answers a next state, takes the word, and leaves a state of
which the same can be said: a run has no end. The clauses on `config` and on the delivered words are about
the model's own fields (log entries 1 and 3), which RESET leaves (log entry 20). -/
def Obligations.LegalMachineNeverStops : Prop :=
  ∀ s : State, Legal s → s.config.Ok → EventsOnly s →
    ∃ t, step s = .next t ∧ Legal t ∧ t.config = s.config ∧ EventsOnly t ∧
      t.stimulus = s.stimulus.tail

/-- 10_state.md sections 5 and 7 (R18, R20): with event words only, nothing computed inside a tick survives
it, so the twelve registers are all that persists (log entry 6 for `wires`, log entry 3 for the delivered
words). -/
def Obligations.NothingOfATickSurvivesIt : Prop :=
  ∀ s t : State, EventsOnly s → s.wires = Wires.idle → step s = .next t →
    t.wires = Wires.idle ∧ EventsOnly t

/-- R41: no operation and no step writes a table. -/
def Obligations.NoOperationWritesATable : Prop :=
  (∀ (i : Instr) (s t : State), exec i s = .next t →
    t.config.mask = s.config.mask ∧ t.config.topo = s.config.topo ∧ t.config.frame = s.config.frame) ∧
  ∀ s t : State, step s = .next t →
    t.config.mask = s.config.mask ∧ t.config.topo = s.config.topo ∧ t.config.frame = s.config.frame

/-- 60_exceptions.md section 6 and 70_reset_and_hazards.md section 5 (R131, decision D16; R152, decision
D22): no operation reads the selector or the tick rate; with other values everything goes the same way. -/
def Obligations.SelectorAndTickRateAreIgnored : Prop :=
  ∀ (s : State) (v : Int) (f : Nat),
    (∀ i : Instr,
      exec i { s with config := { s.config with sel := v, fTickHz := f } } =
        andThen (exec i s) fun t => .next { t with config := { t.config with sel := v, fTickHz := f } }) ∧
    step { s with config := { s.config with sel := v, fTickHz := f } } =
      andThen (step s) fun t => .next { t with config := { t.config with sel := v, fTickHz := f } }

/-- 10_state.md section 4 and 60_exceptions.md section 1 (R17, R121): the block never reads its pin
registers back. An operation that writes them overwrites whatever they held and does all else the same
way; every other operation does the same and keeps them; and a step leaves the same in every other field.
That a micro-operation or a pin command is run alone is the model's (log entry 4). -/
def Obligations.PinRegistersAreNeverReadBack : Prop :=
  ∀ (s : State) (dir out : PinReg),
    (∀ i : Instr, (i.format = .pc ∨ i ∈ [Instr.pincmd, .tick, .reset]) →
      exec i { s with pinDir := dir, pinOut := out } = exec i s) ∧
    (∀ i : Instr, i.format ≠ .pc → i ∉ [Instr.pincmd, .tick, .reset] →
      exec i { s with pinDir := dir, pinOut := out } =
        andThen (exec i s) fun t => .next { t with pinDir := dir, pinOut := out }) ∧
    (andThen (step { s with pinDir := dir, pinOut := out }) fun t =>
        .next { t with pinDir := 0b000#3, pinOut := 0b000#3 }) =
      andThen (step s) fun t => .next { t with pinDir := 0b000#3, pinOut := 0b000#3 }

/-- 20_memory.md section 6 and 44_animator.md section 2 (R39, R113): the pins after a TICK depend on the
brightness, the cursor, MASK and TOPO from before it and on nothing else: not on the counter, the
animation cursor or the frame table, so new brightness values do not affect the tick that wrote them. -/
def Obligations.PinsIgnoreTheAnimationOfTheirTick : Prop :=
  ∀ s s' t t' : State, s'.bv = s.bv → s'.led = s.led → s'.sub = s.sub →
    s'.config.mask = s.config.mask → s'.config.topo = s.config.topo →
    exec .tick s = .next t → exec .tick s' = .next t' →
    t'.pinDir = t.pinDir ∧ t'.pinOut = t.pinOut

/-! ### What the pins light -/

/-- 41_pin_sequencer.md section 3 (R88, decision D21): after PIN_ON(k) LED k is lit and no other, after
PIN_OFF none is. -/
def Obligations.PinCommandLightsItsLedAlone : Prop :=
  ∀ s : State, TopologyOk s.config.topo →
    (∀ k : Fin 6, ∃ t, exec (Instr.pinOn k) s = .next t ∧ ∀ j : Fin 6, t.isLit j = true ↔ j = k) ∧
    ∃ t, exec .pinOff s = .next t ∧ ∀ j : Fin 6, t.isLit j = false

/-- 41_pin_sequencer.md section 4 (R89, decision D10): with a legal pin word at most one LED is lit, at most one pin has
its level set, no level is set on an input, and 0 or 2 pins are outputs. -/
def Obligations.LegalPinWordLightsAtMostOneLed : Prop :=
  ∀ s : State, TopologyOk s.config.topo → LegalPins s →
    (∀ j k : Fin 6, s.isLit j = true → s.isLit k = true → j = k) ∧
    pinCount s.pinOut ≤ 1 ∧ s.pinOut &&& ~~~s.pinDir = 0b000#3 ∧
    (pinCount s.pinDir = 0 ∨ pinCount s.pinDir = 2)

/-- 70_reset_and_hazards.md section 4 (R147): the intermediate pin words of a serial implementation,
between PIN_OFF and PIN_ON(k) in either direction and either order, light no LED and drive at most one
pin high. No state of the model has them. -/
def Obligations.SerialPinWritesLightNothing : Prop :=
  ∀ (t : Topology) (k j : Fin 6),
    ∀ p ∈ [directionFirst pinsOff (pinsOn t[k]), levelFirst pinsOff (pinsOn t[k]),
      directionFirst (pinsOn t[k]) pinsOff, levelFirst (pinsOn t[k]) pinsOff],
      lit t p.dir p.out j = false ∧ pinCount (drivenHigh p) ≤ 1

/-- 70_reset_and_hazards.md section 4 (R148): two successive TICKs that both light an LED light the same
one: between two different LEDs there is a PIN_OFF. -/
def Obligations.LitLedNeverChangesDirectly : Prop :=
  ∀ s t u : State, exec .tick s = .next t → exec .tick t = .next u →
    t.pinWord ≠ offWord → u.pinWord ≠ offWord → u.pinWord = t.pinWord

/-! ### Laws over any number of ticks -/

/-- 42_cursor_sequencer.md section 2 (R91): after n TICKs the linear position of the cursor has moved by n
modulo 54, from any state in range, whatever the brightness, the counter and the tables are. -/
def Obligations.CursorPositionAfterTicks : Prop :=
  ∀ (n : Nat) (s : State), InRange s →
    ∃ t, ticks n s = .next t ∧ InRange t ∧ position t = (position s + n) % 54 ∧
      t.led.toNat = position t / 9 ∧ t.sub.toNat = position t % 9

/-- 43_tick_counter.md section 2 (R101): after n TICKs the counter has moved by n modulo 750. -/
def Obligations.TickCounterAfterTicks : Prop :=
  ∀ (n : Nat) (s : State), InRange s →
    ∃ t, ticks n s = .next t ∧ t.cnt.toNat = (s.cnt.toNat + n) % 750

/-- 44_animator.md section 2 (R111): the animation cursor moves by one modulo 54 on every 750th count, and
on no other tick. -/
def Obligations.AnimationCursorAfterTicks : Prop :=
  ∀ (n : Nat) (s : State), InRange s →
    ∃ t, ticks n s = .next t ∧ t.ai.toNat = (s.ai.toNat + (s.cnt.toNat + n) / 750) % 54

/-- 44_animator.md section 2 (R112): once an animator step has run, the brightness registers are the three
mirrored pairs of the step that sampled a = ai − 1; before it they are as they were. -/
def Obligations.BrightnessFollowsTheAnimationCursor : Prop :=
  ∀ (n : Nat) (s : State), InRange s →
    ∃ t, ticks n s = .next t ∧
      (if s.cnt.toNat + n < 750 then t.bv = s.bv
        else t.bv = #v[frameAt s.config.frame (t.ai.toNat + 1), frameAt s.config.frame (t.ai.toNat + 1),
          frameAt s.config.frame t.ai.toNat, frameAt s.config.frame t.ai.toNat,
          frameAt s.config.frame (t.ai.toNat + 53), frameAt s.config.frame (t.ai.toNat + 53)])

/-- 40_tick_and_scan.md section 7 (R75): over 54 successive TICKs during which the level of LED k does not
change, PIN_ON(k) is issued on exactly min(bv[k], 8) of them, for every MASK and TOPO the spec admits
and from any position of the cursor. -/
def Obligations.DutyCycleIsTheBrightnessLevel : Prop :=
  ∀ (s : State) (k : Fin 6), InRange s → MaskOk s.config.mask → TopologyOk s.config.topo →
    (∀ n < 54, ∀ t, ticks n s = .next t → t.bv[k] = s.bv[k]) →
    ticksShowing (onWord s.config.topo[k]) 54 s = min (s.bv[k]).toNat 8

/-- 44_animator.md section 2 (R113, conflict C11): in a sub-frame of nine TICKs in which the LED's level
moves by at most one, under either reading of MASK (20_memory.md R31), the lit ticks are as many as the old
or the new level. -/
def Obligations.MixedSubFrameShowsOldOrNewLevel : Prop :=
  ∀ (s t : State) (k : Fin 6), InRange s → s.led.toNat = k.val → s.sub = 0 →
    (s.config.mask = maskRef ∨ s.config.mask = maskAlt) → TopologyOk s.config.topo → ticks 9 s = .next t →
    (s.bv[k]).toNat ≤ 8 → (t.bv[k]).toNat ≤ 8 →
    (s.bv[k]).toNat ≤ (t.bv[k]).toNat + 1 → (t.bv[k]).toNat ≤ (s.bv[k]).toNat + 1 →
    ticksShowing (onWord s.config.topo[k]) 9 s = (s.bv[k]).toNat ∨
      ticksShowing (onWord s.config.topo[k]) 9 s = (t.bv[k]).toNat

/-- 10_state.md section 8 (R22): under the reference tables the state after n TICKs from reset depends on n
modulo 40 500 only, and on no less. -/
def Obligations.WholeStateHasPeriod40500 : Prop :=
  ∀ m n : Nat, ticks m State.reset = ticks n State.reset ↔ m % 40500 = n % 40500

/-- 70_reset_and_hazards.md section 1 (R142): under the reference tables the first 1 519 TICKs after reset
leave every LED dark, and the 1 520th issues PIN_ON0. -/
def Obligations.FirstLightIsOnTick1520 : Prop :=
  (∀ n ≤ 1519, ∃ t, ticks n State.reset = .next t ∧ t.pinWord = 0b000000#6) ∧
  ∃ t, ticks 1520 State.reset = .next t ∧ t.pinWord = 0b011001#6

/-- 42_cursor_sequencer.md section 2 (R92, decisions D7, D10): a TICK that runs with the cursor on the last
position of a sub-frame leaves every LED dark, whatever the brightness: one tick in nine. -/
def Obligations.EveryNinthTickIsDark : Prop :=
  ∀ (n : Nat) (s : State), InRange s → (position s + n) % 9 = 8 →
    ∃ t, ticks (n + 1) s = .next t ∧ t.pinWord = 0b000000#6

/-! ### The reference tables and the stimulus notation -/

/-- 20_memory.md section 1 (R31, decision D6): bit b of the reference MASK[L] is set exactly when b ≥ 8 − L,
and each mask's bits are among the next one's. -/
def Obligations.ReferenceMaskFillsFromTheTop : Prop :=
  (∀ (L : Fin 9) (b : Fin 8), maskRef[L].getLsbD b.val = decide (8 ≤ b.val + L.val)) ∧
  ∀ (L : Nat) (_ : L < 8), maskRef[L] &&& maskRef[L + 1] = maskRef[L]

/-- 20_memory.md section 1 (R33, decision D17, conflict C4): the reference FRAME is the triangular ramp, each
level three times, and FRAME_ALT is the same ramp three places later. -/
def Obligations.ReferenceFrameIsTheTriangularRamp : Prop :=
  (∀ n : Fin 54, (frameRef[n]).toNat = if n.val < 27 then n.val / 3 else (53 - n.val) / 3) ∧
  ∀ n : Fin 54, frameAlt[n] = frameAt frameRef (n.val + 51)

/-- 30_encoding.md section 7 (R58): the observation of n steps is the pin word after each of them, in order,
and the final state. It answers exactly where the n steps answer, and is refused for their reason. -/
def Obligations.ObservationHasOnePinWordPerEvent : Prop :=
  ∀ (n : Nat) (s : State),
    (∀ (t : State) (ws : List PinWord), observe n s = .ok (ws, t) ↔
      steps n s = .next t ∧ ws.length = n ∧
        ∀ k < n, ∃ u, steps (k + 1) s = .next u ∧ ws[k]? = some u.pinWord) ∧
    ∀ r : Refusal, observe n s = .error r ↔ steps n s = .refused r

/-- 30_encoding.md section 7 (R59): observing a stimulus of n TICKs gives the state n TICKs reach, with
nothing left to deliver. -/
def Obligations.ObservedTicksReachTheStateOfTheTicks : Prop :=
  ∀ (n : Nat) (s : State), s.config.Ok → InRange s →
    ∃ t ws, ticks n { s with stimulus := [] } = .next t ∧
      (Stimulus.mk (some s) [.tickTimes n]).observation = .ok (ws, t)
end

