-- ==== Sys2Proof/Laws/State.lean ====
section
/-!
SUPPORT. Every field of the state after every named update, each true by definition, so that no proof
unfolds a record update.
-/

namespace Sys2Proof.Machine

/-! ### withPins -/

@[simp] theorem State.withPins_bv (s : State) (p : PinPair) :
    (s.withPins p).bv = s.bv := rfl

@[simp] theorem State.withPins_led (s : State) (p : PinPair) :
    (s.withPins p).led = s.led := rfl

@[simp] theorem State.withPins_sub (s : State) (p : PinPair) :
    (s.withPins p).sub = s.sub := rfl

@[simp] theorem State.withPins_cnt (s : State) (p : PinPair) :
    (s.withPins p).cnt = s.cnt := rfl

@[simp] theorem State.withPins_ai (s : State) (p : PinPair) :
    (s.withPins p).ai = s.ai := rfl

@[simp] theorem State.withPins_pinDir (s : State) (p : PinPair) :
    (s.withPins p).pinDir = p.dir := rfl

@[simp] theorem State.withPins_pinOut (s : State) (p : PinPair) :
    (s.withPins p).pinOut = p.out := rfl

@[simp] theorem State.withPins_wires (s : State) (p : PinPair) :
    (s.withPins p).wires = s.wires := rfl

@[simp] theorem State.withPins_config (s : State) (p : PinPair) :
    (s.withPins p).config = s.config := rfl

@[simp] theorem State.withPins_stimulus (s : State) (p : PinPair) :
    (s.withPins p).stimulus = s.stimulus := rfl

/-! ### withCursor -/

@[simp] theorem State.withCursor_bv (s : State) (l : LedIndex) (b : SubTick) :
    (s.withCursor l b).bv = s.bv := rfl

@[simp] theorem State.withCursor_led (s : State) (l : LedIndex) (b : SubTick) :
    (s.withCursor l b).led = l := rfl

@[simp] theorem State.withCursor_sub (s : State) (l : LedIndex) (b : SubTick) :
    (s.withCursor l b).sub = b := rfl

@[simp] theorem State.withCursor_cnt (s : State) (l : LedIndex) (b : SubTick) :
    (s.withCursor l b).cnt = s.cnt := rfl

@[simp] theorem State.withCursor_ai (s : State) (l : LedIndex) (b : SubTick) :
    (s.withCursor l b).ai = s.ai := rfl

@[simp] theorem State.withCursor_pinDir (s : State) (l : LedIndex) (b : SubTick) :
    (s.withCursor l b).pinDir = s.pinDir := rfl

@[simp] theorem State.withCursor_pinOut (s : State) (l : LedIndex) (b : SubTick) :
    (s.withCursor l b).pinOut = s.pinOut := rfl

@[simp] theorem State.withCursor_wires (s : State) (l : LedIndex) (b : SubTick) :
    (s.withCursor l b).wires = s.wires := rfl

@[simp] theorem State.withCursor_config (s : State) (l : LedIndex) (b : SubTick) :
    (s.withCursor l b).config = s.config := rfl

@[simp] theorem State.withCursor_stimulus (s : State) (l : LedIndex) (b : SubTick) :
    (s.withCursor l b).stimulus = s.stimulus := rfl

/-! ### withCount -/

@[simp] theorem State.withCount_bv (s : State) (c : TickCount) :
    (s.withCount c).bv = s.bv := rfl

@[simp] theorem State.withCount_led (s : State) (c : TickCount) :
    (s.withCount c).led = s.led := rfl

@[simp] theorem State.withCount_sub (s : State) (c : TickCount) :
    (s.withCount c).sub = s.sub := rfl

@[simp] theorem State.withCount_cnt (s : State) (c : TickCount) :
    (s.withCount c).cnt = c := rfl

@[simp] theorem State.withCount_ai (s : State) (c : TickCount) :
    (s.withCount c).ai = s.ai := rfl

@[simp] theorem State.withCount_pinDir (s : State) (c : TickCount) :
    (s.withCount c).pinDir = s.pinDir := rfl

@[simp] theorem State.withCount_pinOut (s : State) (c : TickCount) :
    (s.withCount c).pinOut = s.pinOut := rfl

@[simp] theorem State.withCount_wires (s : State) (c : TickCount) :
    (s.withCount c).wires = s.wires := rfl

@[simp] theorem State.withCount_config (s : State) (c : TickCount) :
    (s.withCount c).config = s.config := rfl

@[simp] theorem State.withCount_stimulus (s : State) (c : TickCount) :
    (s.withCount c).stimulus = s.stimulus := rfl

/-! ### withAnimation -/

@[simp] theorem State.withAnimation_bv (s : State) (a : Animated) :
    (s.withAnimation a).bv = a.bv := rfl

@[simp] theorem State.withAnimation_led (s : State) (a : Animated) :
    (s.withAnimation a).led = s.led := rfl

@[simp] theorem State.withAnimation_sub (s : State) (a : Animated) :
    (s.withAnimation a).sub = s.sub := rfl

@[simp] theorem State.withAnimation_cnt (s : State) (a : Animated) :
    (s.withAnimation a).cnt = s.cnt := rfl

@[simp] theorem State.withAnimation_ai (s : State) (a : Animated) :
    (s.withAnimation a).ai = a.ai := rfl

@[simp] theorem State.withAnimation_pinDir (s : State) (a : Animated) :
    (s.withAnimation a).pinDir = s.pinDir := rfl

@[simp] theorem State.withAnimation_pinOut (s : State) (a : Animated) :
    (s.withAnimation a).pinOut = s.pinOut := rfl

@[simp] theorem State.withAnimation_wires (s : State) (a : Animated) :
    (s.withAnimation a).wires = s.wires := rfl

@[simp] theorem State.withAnimation_config (s : State) (a : Animated) :
    (s.withAnimation a).config = s.config := rfl

@[simp] theorem State.withAnimation_stimulus (s : State) (a : Animated) :
    (s.withAnimation a).stimulus = s.stimulus := rfl

/-! ### withWires -/

@[simp] theorem State.withWires_bv (s : State) (w : Wires) :
    (s.withWires w).bv = s.bv := rfl

@[simp] theorem State.withWires_led (s : State) (w : Wires) :
    (s.withWires w).led = s.led := rfl

@[simp] theorem State.withWires_sub (s : State) (w : Wires) :
    (s.withWires w).sub = s.sub := rfl

@[simp] theorem State.withWires_cnt (s : State) (w : Wires) :
    (s.withWires w).cnt = s.cnt := rfl

@[simp] theorem State.withWires_ai (s : State) (w : Wires) :
    (s.withWires w).ai = s.ai := rfl

@[simp] theorem State.withWires_pinDir (s : State) (w : Wires) :
    (s.withWires w).pinDir = s.pinDir := rfl

@[simp] theorem State.withWires_pinOut (s : State) (w : Wires) :
    (s.withWires w).pinOut = s.pinOut := rfl

@[simp] theorem State.withWires_wires (s : State) (w : Wires) :
    (s.withWires w).wires = w := rfl

@[simp] theorem State.withWires_config (s : State) (w : Wires) :
    (s.withWires w).config = s.config := rfl

@[simp] theorem State.withWires_stimulus (s : State) (w : Wires) :
    (s.withWires w).stimulus = s.stimulus := rfl

/-! ### withStimulus -/

@[simp] theorem State.withStimulus_bv (s : State) (ws : List OpWord) :
    (s.withStimulus ws).bv = s.bv := rfl

@[simp] theorem State.withStimulus_led (s : State) (ws : List OpWord) :
    (s.withStimulus ws).led = s.led := rfl

@[simp] theorem State.withStimulus_sub (s : State) (ws : List OpWord) :
    (s.withStimulus ws).sub = s.sub := rfl

@[simp] theorem State.withStimulus_cnt (s : State) (ws : List OpWord) :
    (s.withStimulus ws).cnt = s.cnt := rfl

@[simp] theorem State.withStimulus_ai (s : State) (ws : List OpWord) :
    (s.withStimulus ws).ai = s.ai := rfl

@[simp] theorem State.withStimulus_pinDir (s : State) (ws : List OpWord) :
    (s.withStimulus ws).pinDir = s.pinDir := rfl

@[simp] theorem State.withStimulus_pinOut (s : State) (ws : List OpWord) :
    (s.withStimulus ws).pinOut = s.pinOut := rfl

@[simp] theorem State.withStimulus_wires (s : State) (ws : List OpWord) :
    (s.withStimulus ws).wires = s.wires := rfl

@[simp] theorem State.withStimulus_config (s : State) (ws : List OpWord) :
    (s.withStimulus ws).config = s.config := rfl

@[simp] theorem State.withStimulus_stimulus (s : State) (ws : List OpWord) :
    (s.withStimulus ws).stimulus = ws := rfl

/-! ### withConfig -/

@[simp] theorem State.withConfig_bv (s : State) (c : Config) :
    (s.withConfig c).bv = s.bv := rfl

@[simp] theorem State.withConfig_led (s : State) (c : Config) :
    (s.withConfig c).led = s.led := rfl

@[simp] theorem State.withConfig_sub (s : State) (c : Config) :
    (s.withConfig c).sub = s.sub := rfl

@[simp] theorem State.withConfig_cnt (s : State) (c : Config) :
    (s.withConfig c).cnt = s.cnt := rfl

@[simp] theorem State.withConfig_ai (s : State) (c : Config) :
    (s.withConfig c).ai = s.ai := rfl

@[simp] theorem State.withConfig_pinDir (s : State) (c : Config) :
    (s.withConfig c).pinDir = s.pinDir := rfl

@[simp] theorem State.withConfig_pinOut (s : State) (c : Config) :
    (s.withConfig c).pinOut = s.pinOut := rfl

@[simp] theorem State.withConfig_wires (s : State) (c : Config) :
    (s.withConfig c).wires = s.wires := rfl

@[simp] theorem State.withConfig_config (s : State) (c : Config) :
    (s.withConfig c).config = c := rfl

@[simp] theorem State.withConfig_stimulus (s : State) (c : Config) :
    (s.withConfig c).stimulus = s.stimulus := rfl

/-! ### resetRegisters -/

@[simp] theorem State.resetRegisters_bv (s : State) :
    (s.resetRegisters).bv = #v[0, 0, 0, 0, 0, 0] := rfl

@[simp] theorem State.resetRegisters_led (s : State) :
    (s.resetRegisters).led = 0 := rfl

@[simp] theorem State.resetRegisters_sub (s : State) :
    (s.resetRegisters).sub = 0 := rfl

@[simp] theorem State.resetRegisters_cnt (s : State) :
    (s.resetRegisters).cnt = 0 := rfl

@[simp] theorem State.resetRegisters_ai (s : State) :
    (s.resetRegisters).ai = 0 := rfl

@[simp] theorem State.resetRegisters_pinDir (s : State) :
    (s.resetRegisters).pinDir = 0b000#3 := rfl

@[simp] theorem State.resetRegisters_pinOut (s : State) :
    (s.resetRegisters).pinOut = 0b000#3 := rfl

@[simp] theorem State.resetRegisters_wires (s : State) :
    (s.resetRegisters).wires = Wires.idle := rfl

@[simp] theorem State.resetRegisters_config (s : State) :
    (s.resetRegisters).config = s.config := rfl

@[simp] theorem State.resetRegisters_stimulus (s : State) :
    (s.resetRegisters).stimulus = s.stimulus := rfl

/-! ### The pin word -/

/-- The pin word after a write of the pin registers (R51). -/
@[simp] theorem State.withPins_pinWord (s : State) (p : PinPair) :
    (s.withPins p).pinWord = joinPins p.dir p.out := rfl

/-- The pin word after RESET: all pins undriven (R140). -/
@[simp] theorem State.resetRegisters_pinWord (s : State) :
    s.resetRegisters.pinWord = offWord :=
  show joinPins 0b000#3 0b000#3 = offWord by decide

/-- Writing an update's own values back changes nothing. -/
@[simp] theorem State.withStimulus_self (s : State) : s.withStimulus s.stimulus = s := rfl

/-- Two states with equal fields are equal. -/
theorem State.eq_of_fields {s t : State} (hbv : s.bv = t.bv) (hled : s.led = t.led)
    (hsub : s.sub = t.sub) (hcnt : s.cnt = t.cnt) (hai : s.ai = t.ai) (hdir : s.pinDir = t.pinDir)
    (hout : s.pinOut = t.pinOut) (hw : s.wires = t.wires) (hc : s.config = t.config)
    (hs : s.stimulus = t.stimulus) : s = t := by
  cases s
  cases t
  simp_all

end Sys2Proof.Machine
end

