-- ==== Sys2Proof/Laws/Tables.lean ====
section
/-!
SUPPORT. The operand forms and the tables, once each: what the clamp, the mask read and the frame index
give as numbers, and which pin words the topology's entries give.
-/

namespace Sys2Proof.Machine

/-- The clamp as a number (R54). -/
@[simp] theorem clampLevel_toNat (L : Level) : (clampLevel L).toNat = min L.toNat 8 := by
  unfold clampLevel
  split
  · have h : L.toNat ≤ 8 := by assumption
    omega
  · have h : ¬L.toNat ≤ 8 := by assumption
    have h8 : maxLevel.toNat = 8 := rfl
    omega

/-- LOOKUP's table read, by the clamped number (R71). -/
theorem maskAt_eq (t : MaskTable) (L : Level) : maskAt t L = t[min L.toNat 8] := by
  simp [maskAt]

/-- The next frame index as a number (R76). -/
theorem nextFrame_toNat {n : FrameIndex} (h : n.toNat < 54) : (nextFrame n).toNat = (n.toNat + 1) % 54 := by
  unfold nextFrame
  split
  · simp_all
  · have hne : n.toNat ≠ 53 := fun h' => by
      have : n = lastFrame := BitVec.eq_of_toNat_eq h'
      contradiction
    rw [BitVec.toNat_add]
    have h1 : (1 : FrameIndex).toNat = 1 := rfl
    omega

/-- A frame index in range stays in range (R110). -/
theorem nextFrame_lt {n : FrameIndex} (h : n.toNat < 54) : (nextFrame n).toNat < 54 := by
  rw [nextFrame_toNat h]
  exact Nat.mod_lt _ (by decide)

/-- PIN_ON's word determines the LED's pins (R52). -/
theorem onWord_injective {e e' : LedPins} (h : e.anode ≠ e.cathode) (hw : onWord e = onWord e') :
    e = e' := by
  rcases e with ⟨a, c⟩
  rcases e' with ⟨a', c'⟩
  revert h hw
  cases a <;> cases c <;> cases a' <;> cases c' <;> decide

/-- PIN_ON never writes PIN_OFF's word (R52). -/
theorem onWord_ne_offWord (e : LedPins) : onWord e ≠ offWord := by
  rcases e with ⟨a, c⟩
  cases a <;> cases c <;> decide

/-- PIN_ON of an LED whose anode and cathode differ writes one of the seven words (R52). -/
theorem onWord_mem_legal {e : LedPins} (h : e.anode ≠ e.cathode) : onWord e ∈ legalPinWords := by
  rcases e with ⟨a, c⟩
  revert h
  cases a <;> cases c <;> decide

/-- PIN_OFF's word is one of the seven (R52). -/
theorem offWord_mem_legal : offWord ∈ legalPinWords := by decide

/-- `pin_dir` of PIN_ON is the upper half of its word, `pin_out` the lower (R51). -/
theorem joinPins_injective {d d' o o' : PinReg} (h : joinPins d o = joinPins d' o') :
    d = d' ∧ o = o' := by
  have key : ∀ d o : PinReg, (joinPins d o).extractLsb' 3 3 = d ∧ (joinPins d o).extractLsb' 0 3 = o := by
    decide
  exact ⟨(key d o).1 ▸ h ▸ (key d' o').1, (key d o).2 ▸ h ▸ (key d' o').2⟩

/-- The reference configuration is one the spec admits (R31, R32, R33). -/
theorem referenceConfig_ok : referenceConfig.Ok := by decide

end Sys2Proof.Machine
end

