-- ==== Sys2Proof/Laws/Ops.lean ====
section
/-!
SUPPORT. One lemma per shared operation that says everything it can do: when it answers, what it
answers, and with which refusal it stops.
-/

namespace Sys2Proof.Machine

/-! ### Plumbing -/

@[simp] theorem toOutcome_ok (s : State) : toOutcome (.ok s) = .next s := rfl

@[simp] theorem toOutcome_error (r : Refusal) : toOutcome (.error r) = .refused r := rfl

/-- An outcome made from a result is a next state exactly when the result is a state. -/
theorem toOutcome_eq_next {x : Except Refusal State} {t : State} :
    toOutcome x = .next t ↔ x = .ok t := by
  cases x <;> simp

/-- An outcome made from a result is a refusal exactly when the result is. -/
theorem toOutcome_eq_refused {x : Except Refusal State} {r : Refusal} :
    toOutcome x = .refused r ↔ x = .error r := by
  cases x <;> simp

/-- A bind answers exactly when both of its halves do. -/
theorem bind_eq_ok {α β : Type} {x : Except Refusal α} {f : α → Except Refusal β} {b : β} :
    (x >>= f) = .ok b ↔ ∃ a, x = .ok a ∧ f a = .ok b := by
  cases x <;> simp [bind, Except.bind]

/-- A bind on an answer goes on with it. -/
@[simp] theorem ok_bind {α β : Type} (a : α) (f : α → Except Refusal β) :
    ((Except.ok a : Except Refusal α) >>= f) = f a := rfl

/-- A bind on a refusal is that refusal. -/
@[simp] theorem error_bind {α β : Type} (r : Refusal) (f : α → Except Refusal β) :
    ((Except.error r : Except Refusal α) >>= f) = .error r := rfl

/-! ### Reads -/

@[simp] theorem readBv_ok (bv : Vector Level 6) {led : LedIndex} (h : led.toNat < 6) :
    readBv bv led = .ok bv[led.toNat] := dif_pos h

@[simp] theorem readBv_error (bv : Vector Level 6) {led : LedIndex} (h : ¬led.toNat < 6) :
    readBv bv led = .error .ledOutOfRange := dif_neg h

@[simp] theorem readTopo_ok (t : Topology) {led : LedIndex} (h : led.toNat < 6) :
    readTopo t led = .ok t[led.toNat] := dif_pos h

@[simp] theorem readTopo_error (t : Topology) {led : LedIndex} (h : ¬led.toNat < 6) :
    readTopo t led = .error .ledOutOfRange := dif_neg h

@[simp] theorem readFrame_ok (f : FrameTable) {n : FrameIndex} (h : n.toNat < 54) :
    readFrame f n = .ok f[n.toNat] := dif_pos h

@[simp] theorem readFrame_error (f : FrameTable) {n : FrameIndex} (h : ¬n.toNat < 54) :
    readFrame f n = .error .aiOutOfRange := dif_neg h

/-! ### The micro-operations -/

/-- LOOKUP answers exactly where `led` is in range. -/
theorem lookupMask_ok (t : MaskTable) (bv : Vector Level 6) {led : LedIndex} (h : led.toNat < 6) :
    lookupMask t bv led = .ok (maskAt t bv[led.toNat]) := by
  simp [lookupMask, h]

theorem lookupMask_error (t : MaskTable) (bv : Vector Level 6) {led : LedIndex} (h : ¬led.toNat < 6) :
    lookupMask t bv led = .error .ledOutOfRange := by
  simp [lookupMask, h]

/-- BITSEL answers exactly where `sub` is in range. -/
theorem selectBit_ok (m : Mask) {sub : SubTick} (h : sub.toNat ≤ 8) :
    selectBit m sub = .ok (onCond m sub) := if_pos h

theorem selectBit_error (m : Mask) {sub : SubTick} (h : ¬sub.toNat ≤ 8) :
    selectBit m sub = .error .subOutOfRange := if_neg h

/-- PINCMD with `on` clear issues PIN_OFF, whatever `led` is. -/
@[simp] theorem choosePins_off (t : Topology) (led : LedIndex) :
    choosePins t false led = .ok pinsOff := rfl

/-- PINCMD with `on` set issues PIN_ON(led) where `led` is in range. -/
theorem choosePins_on (t : Topology) {led : LedIndex} (h : led.toNat < 6) :
    choosePins t true led = .ok (pinsOn t[led.toNat]) := by
  simp [choosePins, h]

theorem choosePins_error (t : Topology) {led : LedIndex} (h : ¬led.toNat < 6) :
    choosePins t true led = .error .ledOutOfRange := by
  simp [choosePins, h]

/-- PINCMD with `led` in range, both arms. -/
theorem choosePins_ok (t : Topology) (isOn : Bool) {led : LedIndex} (h : led.toNat < 6) :
    choosePins t isOn led = .ok (if isOn then pinsOn t[led.toNat] else pinsOff) := by
  cases isOn
  · simp
  · simp [choosePins_on t h]

/-- Everything PINCMD can write: PIN_OFF's pins, or PIN_ON's for the LED in range. -/
theorem choosePins_cases {t : Topology} {isOn : Bool} {led : LedIndex} {p : PinPair}
    (h : choosePins t isOn led = .ok p) :
    (isOn = false ∧ p = pinsOff) ∨ (isOn = true ∧ ∃ hl : led.toNat < 6, p = pinsOn t[led.toNat]) := by
  cases isOn
  · left
    simpa [eq_comm] using h
  · right
    by_cases hl : led.toNat < 6
    · rw [choosePins_on t hl] at h
      cases h
      exact ⟨rfl, hl, rfl⟩
    · rw [choosePins_error t hl] at h
      cases h

/-- ADVANCE on the blank tick: the next LED, at sub-tick 0. -/
theorem nextCursor_wrap {led : LedIndex} {sub : SubTick} (hl : led.toNat < 6) (hs : sub.toNat = 8) :
    nextCursor led sub = .ok ⟨if led = lastLed then 0 else led + 1, 0, true⟩ := by
  have hs' : sub = blankPos := BitVec.eq_of_toNat_eq hs
  subst hs'
  have h1 : ¬6 ≤ led.toNat := by omega
  simp [nextCursor, wrapCond, h1]

/-- ADVANCE on a mask tick: the next sub-tick of the same LED. -/
theorem nextCursor_next {led : LedIndex} {sub : SubTick} (hl : led.toNat < 6) (hs : sub.toNat < 8) :
    nextCursor led sub = .ok ⟨led, sub + 1, false⟩ := by
  have h1 : ¬6 ≤ led.toNat := by omega
  have h2 : ¬9 ≤ sub.toNat := by omega
  have h3 : sub ≠ blankPos := fun h => by
    subst h
    exact absurd hs (by decide)
  simpa [nextCursor, wrapCond, h1, h2] using h3

/-- Everything ADVANCE can do, as numbers. -/
theorem nextCursor_cases {led : LedIndex} {sub : SubTick} {c : Cursor} (h : nextCursor led sub = .ok c) :
    led.toNat < 6 ∧ sub.toNat < 9 ∧
      ((sub.toNat = 8 ∧ c.led.toNat = (led.toNat + 1) % 6 ∧ c.sub.toNat = 0 ∧ c.wrap = true) ∨
        (sub.toNat < 8 ∧ c.led = led ∧ c.sub.toNat = sub.toNat + 1 ∧ c.wrap = false)) := by
  by_cases hl : led.toNat < 6
  · by_cases h8 : sub.toNat = 8
    · rw [nextCursor_wrap hl h8] at h
      cases h
      refine ⟨hl, by omega, .inl ⟨h8, ?_, rfl, rfl⟩⟩
      by_cases h5 : led = lastLed
      · subst h5
        rfl
      · have hne : led.toNat ≠ 5 := fun h' => h5 (BitVec.eq_of_toNat_eq h')
        have h1 : (1 : LedIndex).toNat = 1 := rfl
        simp only [if_neg h5, BitVec.toNat_add]
        omega
    · by_cases h9 : sub.toNat < 8
      · rw [nextCursor_next hl h9] at h
        cases h
        refine ⟨hl, by omega, .inr ⟨h9, rfl, ?_, rfl⟩⟩
        have h1 : (1 : SubTick).toNat = 1 := rfl
        simp only [BitVec.toNat_add]
        omega
      · have h1 : ¬6 ≤ led.toNat := by omega
        have h2 : 9 ≤ sub.toNat := by omega
        simp [nextCursor, h1, h2] at h
  · have h1 : 6 ≤ led.toNat := by omega
    simp [nextCursor, h1] at h

/-- COUNT on the 750th tick: reload and fire. -/
theorem nextCount_fire {cnt : TickCount} (h : cnt.toNat = 749) : nextCount cnt = .ok ⟨0, true⟩ := by
  have h' : cnt = 749 := BitVec.eq_of_toNat_eq h
  subst h'
  rfl

/-- COUNT on any other tick: increment. -/
theorem nextCount_next {cnt : TickCount} (h : cnt.toNat < 749) : nextCount cnt = .ok ⟨cnt + 1, false⟩ := by
  have h1 : ¬750 ≤ cnt.toNat := by omega
  have h2 : (1 : TickCount).toNat = 1 := rfl
  have h3 : animThreshold.toNat = 750 := rfl
  have hne : cnt + 1 ≠ animThreshold := fun hc => by
    have := congrArg BitVec.toNat hc
    rw [BitVec.toNat_add] at this
    omega
  simpa [nextCount, fireCond, h1] using hne

/-- Everything COUNT can do, as numbers. -/
theorem nextCount_cases {cnt : TickCount} {c : Counted} (h : nextCount cnt = .ok c) :
    cnt.toNat < 750 ∧ c.cnt.toNat = (cnt.toNat + 1) % 750 ∧ (c.fire = true ↔ cnt.toNat = 749) := by
  by_cases h1 : cnt.toNat = 749
  · rw [nextCount_fire h1] at h
    cases h
    exact ⟨by omega, by rw [h1]; rfl, by simp [h1]⟩
  · by_cases h2 : cnt.toNat < 749
    · rw [nextCount_next h2] at h
      cases h
      have h3 : (1 : TickCount).toNat = 1 := rfl
      refine ⟨by omega, ?_, by simp [h1]⟩
      simp only [BitVec.toNat_add]
      omega
    · have h3 : 750 ≤ cnt.toNat := by omega
      simp [nextCount, h3] at h

/-- ANIMATE where `ai` is in range: the three mirrored pairs. -/
theorem nextAnimation_ok (f : FrameTable) {ai : FrameIndex} (h : ai.toNat < 54) :
    nextAnimation f ai =
      .ok ⟨#v[f[(ai.toNat + 2) % 54], f[(ai.toNat + 2) % 54], f[(ai.toNat + 1) % 54],
        f[(ai.toNat + 1) % 54], f[ai.toNat], f[ai.toNat]], nextFrame ai⟩ := by
  have hb := nextFrame_lt h
  have hc := nextFrame_lt hb
  have eb := nextFrame_toNat h
  have ec : (nextFrame (nextFrame ai)).toNat = (ai.toNat + 2) % 54 := by
    rw [nextFrame_toNat hb, eb]
    omega
  simp only [nextAnimation, readFrame_ok f h, readFrame_ok f hb, readFrame_ok f hc, ok_bind, ec, eb]

theorem nextAnimation_error (f : FrameTable) {ai : FrameIndex} (h : ¬ai.toNat < 54) :
    nextAnimation f ai = .error .aiOutOfRange := by
  simp [nextAnimation, h]

/-- Slot 5 without the strobe changes nothing. -/
@[simp] theorem animateIf_false (f : FrameTable) (bv : Vector Level 6) (ai : FrameIndex) :
    animateIf false f bv ai = .ok ⟨bv, ai⟩ := rfl

/-- Slot 5 with the strobe is ANIMATE. -/
@[simp] theorem animateIf_true (f : FrameTable) (bv : Vector Level 6) (ai : FrameIndex) :
    animateIf true f bv ai = nextAnimation f ai := rfl

/-- `on` is false on the blank tick (R72). -/
theorem onCond_blank (m : Mask) {sub : SubTick} (h : sub.toNat = 8) : onCond m sub = false :=
  if_pos (BitVec.eq_of_toNat_eq h)

/-- `on` on a mask tick is the mask's bit (R72). -/
theorem onCond_bit (m : Mask) {sub : SubTick} (h : sub.toNat < 8) : onCond m sub = m.getLsbD sub.toNat :=
  if_neg fun hs => by
    subst hs
    exact absurd h (by decide)

/-! ### TICK -/

/-- Everything a TICK that answers has done: each micro-operation answered, reading the state from before
the tick, and the state is made of their results (R70). -/
theorem tickState_cases {s t : State} (h : tickState s = .ok t) :
    ∃ m b p c n a,
      lookupMask s.config.mask s.bv s.led = .ok m ∧ selectBit m s.sub = .ok b ∧
      choosePins s.config.topo b s.led = .ok p ∧ nextCursor s.led s.sub = .ok c ∧
      nextCount s.cnt = .ok n ∧
      animateIf n.fire s.config.frame s.bv s.ai = .ok a ∧
      t = ((((s.withPins p).withCursor c.led c.sub).withCount n.cnt).withAnimation a).withWires
        Wires.idle := by
  simp only [tickState, bind_eq_ok] at h
  obtain ⟨m, hm, b, hb, p, hp, c, hc, n, hn, a, ha, ht⟩ := h
  exact ⟨m, b, p, c, n, a, hm, hb, hp, hc, hn, ha, by simpa [eq_comm] using ht⟩

/-! ### Fetch -/

/-- Everything the fetch can answer: HOLD where nothing is delivered, else the operation of the first
word, with that word taken. -/
theorem fetch_cases {s t : State} {i : Instr} (h : fetch s = .ok (i, t)) :
    s.config.Ok ∧
      ((s.stimulus = [] ∧ i = .hold ∧ t = s) ∨
        ∃ w rest, s.stimulus = w :: rest ∧ decode s.config.topo w = .ok i ∧ t = s.withStimulus rest) := by
  unfold fetch at h
  split at h
  · rename_i hc
    refine ⟨hc, ?_⟩
    split at h
    · rename_i hs
      left
      simp only [Except.ok.injEq, Prod.mk.injEq] at h
      exact ⟨hs, h.1.symm, h.2.symm⟩
    · rename_i w rest hs
      right
      split at h
      · rename_i j hj
        simp only [Except.ok.injEq, Prod.mk.injEq] at h
        exact ⟨w, rest, hs, h.1 ▸ hj, h.2.symm⟩
      · cases h
  · cases h

/-- A step that answers has fetched an operation and run it. -/
theorem step_cases {s t : State} (h : step s = .next t) :
    ∃ i u, fetch s = .ok (i, u) ∧ exec i u = .next t := by
  unfold step at h
  split at h
  · rename_i i u hf
    exact ⟨i, u, hf, h⟩
  · cases h

end Sys2Proof.Machine
end

