-- ==== Sys2Proof/Laws/PerInstr.lean ====
section
/-!
SUPPORT. The per-instruction family EncodedWord: under every topology the spec admits, an operation's
word is one in use (30_encoding.md R57) and has the operation's own format (R49).
-/

namespace Sys2Proof.Laws.EncodedWord

open Sys2Proof.Machine

/-- The operation's word is in use and has its format. -/
def Statement (i : Instr) : Prop :=
  ∀ t : Topology, TopologyOk t → (encode t i).ok = true ∧ (encode t i).format = i.format

/-- A PIN_ON word is in use, since anode and cathode differ (R52). -/
theorem pinOn_ok {t : Topology} (h : TopologyOk t) (k : Fin 6) : (OpWord.pc (onWord t[k])).ok = true :=
  decide_eq_true (onWord_mem_legal (h.1 k))

theorem reset : Statement .reset := fun _ _ => ⟨rfl, rfl⟩

theorem tick : Statement .tick := fun _ _ => ⟨rfl, rfl⟩

theorem hold : Statement .hold := fun _ _ => ⟨rfl, rfl⟩

theorem lookup : Statement .lookup := fun _ _ => ⟨rfl, rfl⟩

theorem bitsel : Statement .bitsel := fun _ _ => ⟨rfl, rfl⟩

theorem pincmd : Statement .pincmd := fun _ _ => ⟨rfl, rfl⟩

theorem advance : Statement .advance := fun _ _ => ⟨rfl, rfl⟩

theorem count : Statement .count := fun _ _ => ⟨rfl, rfl⟩

theorem animate : Statement .animate := fun _ _ => ⟨rfl, rfl⟩

theorem pinOff : Statement .pinOff := fun _ _ => ⟨rfl, rfl⟩

theorem pinOn0 : Statement .pinOn0 := fun _ h => ⟨pinOn_ok h 0, rfl⟩

theorem pinOn1 : Statement .pinOn1 := fun _ h => ⟨pinOn_ok h 1, rfl⟩

theorem pinOn2 : Statement .pinOn2 := fun _ h => ⟨pinOn_ok h 2, rfl⟩

theorem pinOn3 : Statement .pinOn3 := fun _ h => ⟨pinOn_ok h 3, rfl⟩

theorem pinOn4 : Statement .pinOn4 := fun _ h => ⟨pinOn_ok h 4, rfl⟩

theorem pinOn5 : Statement .pinOn5 := fun _ h => ⟨pinOn_ok h 5, rfl⟩

end Sys2Proof.Laws.EncodedWord
end

