-- ==== Sys2Proof/Laws/Ticks.lean ====
section
/-!
SUPPORT. Sequencing of outcomes, steps and observations, and what a TICK that does not fire leaves
alone.
-/

namespace Sys2Proof.Machine

@[simp] theorem andThen_next (s : State) (f : State → Host.Outcome State Fault Refusal) :
    andThen (.next s) f = f s := rfl

@[simp] theorem andThen_refused (r : Refusal) (f : State → Host.Outcome State Fault Refusal) :
    andThen (.refused r) f = .refused r := rfl

/-- A sequence answers exactly when both halves do. -/
theorem andThen_eq_next {o : Host.Outcome State Fault Refusal}
    {f : State → Host.Outcome State Fault Refusal} {t : State} :
    andThen o f = .next t ↔ ∃ u, o = .next u ∧ f u = .next t := by
  cases o <;> simp [andThen]

/-! ### Steps and observations, one step at a time -/

@[simp] theorem resultOf_next (s : State) : resultOf (.next s) = .ok s := rfl

@[simp] theorem resultOf_refused (r : Refusal) : resultOf (.refused r) = .error r := rfl

@[simp] theorem steps_zero (s : State) : steps 0 s = .next s := rfl

theorem steps_succ (n : Nat) (s : State) : steps (n + 1) s = andThen (step s) (steps n) := rfl

@[simp] theorem ticks_zero (s : State) : ticks 0 s = .next s := rfl

theorem ticks_succ (n : Nat) (s : State) : ticks (n + 1) s = andThen (exec .tick s) (ticks n) := rfl

@[simp] theorem observe_zero (s : State) : observe 0 s = .ok ([], s) := rfl

/-- An observation of one step more: the step's pin word before those of the rest. -/
theorem observe_succ (n : Nat) (s : State) :
    observe (n + 1) s =
      (resultOf (step s) >>= fun t => observe n t >>= fun rest => .ok (t.pinWord :: rest.1, rest.2)) := rfl

/-! ### TICK -/

/-- A TICK answers exactly when its six micro-operations do. -/
theorem execTick_eq_next {s t : State} : exec .tick s = .next t ↔ tickState s = .ok t :=
  toOutcome_eq_next

/-- A TICK that does not fire increments the counter and keeps the brightness registers and the animation
cursor (R100, R102). -/
theorem tick_without_fire {s t : State} (h : exec .tick s = .next t) (hc : s.cnt.toNat ≠ 749) :
    t.bv = s.bv ∧ t.ai = s.ai ∧ t.cnt.toNat = s.cnt.toNat + 1 := by
  obtain ⟨m, b, p, c, n, a, -, -, -, -, hn, ha, rfl⟩ := tickState_cases (execTick_eq_next.mp h)
  obtain ⟨hlt, hcnt, hfire⟩ := nextCount_cases hn
  have hf : n.fire = false := by
    cases hf : n.fire
    · rfl
    · exact absurd (hfire.mp hf) hc
  rw [hf, animateIf_false] at ha
  cases ha
  refine ⟨rfl, rfl, ?_⟩
  simp only [State.withWires_cnt, State.withAnimation_cnt, State.withCount_cnt, hcnt]
  omega

/-- Before the counter reaches the threshold no TICK changes the brightness registers. -/
theorem ticks_keep_bv_below_threshold {n : Nat} {s t : State} (hc : s.cnt.toNat + n < 750)
    (h : ticks n s = .next t) : t.bv = s.bv := by
  induction n generalizing s with
  | zero =>
    cases h
    rfl
  | succ n ih =>
    obtain ⟨u, hu, ht⟩ := andThen_eq_next.mp h
    obtain ⟨hbv, -, hcnt⟩ := tick_without_fire hu (by omega)
    rw [ih (by omega) ht, hbv]

end Sys2Proof.Machine
end

