-- ==== Sys2Proof/Tests/Slice0.lean ====
section
/-!
SUPPORT. Tests of one step each, with expected results from spec/95_test_vectors.md and the encoding
tables of spec/; the smoke tests of the well-formedness checks; and, for every obligation that has
hypotheses, a witness that meets them.
-/

namespace Sys2Proof.Tests

open Sys2Proof.Machine

/-- A state in the printed order of R55, under the reference configuration. -/
def st (bv : Vector Level 6) (led : LedIndex) (sub : SubTick) (cnt : TickCount) (ai : FrameIndex)
    (pins : PinWord) : State :=
  { State.reset with
    bv := bv, led := led, sub := sub, cnt := cnt, ai := ai
    pinDir := pins.extractLsb' 3 3, pinOut := pins.extractLsb' 0 3 }

/-- The next state of an outcome, if it is one. -/
def answer : Host.Outcome State Fault Refusal → Option State
  | .next s => some s
  | .fault _ => none
  | .refused _ => none

/-- The refusal of an outcome, if it is one. -/
def stop : Host.Outcome State Fault Refusal → Option Refusal
  | .next _ => none
  | .fault _ => none
  | .refused r => some r

/-- The other topology of V29 and P7. -/
def topoOther : Topology :=
  #v[⟨.A, .C⟩, ⟨.C, .A⟩, ⟨.A, .B⟩, ⟨.B, .A⟩, ⟨.B, .C⟩, ⟨.C, .B⟩]

/-! ### Well-formedness smoke tests: an ill-formed term for each check -/

/-- U12: two masks swapped have the wrong bit counts. -/
theorem test_mask_check_refuses : ¬MaskOk (maskRef.set 1 0xC0#8) := by decide

/-- U11: anode and cathode on one pin. -/
theorem test_topology_check_refuses_one_pin : ¬TopologyOk (topoRef.set 0 ⟨.A, .A⟩) := by decide

/-- U11: a repeated pair. -/
theorem test_topology_check_refuses_repeat : ¬TopologyOk (topoRef.set 1 ⟨.A, .B⟩) := by decide

/-- U10: a frame entry above 8. -/
theorem test_frame_check_refuses : ¬FrameOk (frameRef.set 53 9) := by decide

/-- R57: slot codes 110 and 111, and a pin word of the 57. -/
theorem test_word_check_refuses :
    (OpWord.uop 0b110#3).ok = false ∧ (OpWord.uop 0b111#3).ok = false ∧
    (OpWord.pc 0b000001#6).ok = false := by decide

/-- R31's other reading, FRAME_ALT and the topology of V29 are configurations the spec admits. -/
theorem test_other_tables_admitted :
    MaskOk maskAlt ∧ FrameOk frameAlt ∧ TopologyOk topoOther := by decide

/-! ### Decoding: words written out from 30_encoding.md R50, R52, R56 -/

/-- R50: `1t` RESET, `01` TICK, `00` HOLD. -/
theorem test_decode_events :
    decode topoRef (.ev 0b10#2) = .ok .reset ∧ decode topoRef (.ev 0b11#2) = .ok .reset ∧
    decode topoRef (.ev 0b01#2) = .ok .tick ∧ decode topoRef (.ev 0b00#2) = .ok .hold := by decide

/-- R56: slots 0 to 5; 110 and 111 are unused. -/
theorem test_decode_slots :
    decode topoRef (.uop 0b000#3) = .ok .lookup ∧ decode topoRef (.uop 0b001#3) = .ok .bitsel ∧
    decode topoRef (.uop 0b010#3) = .ok .pincmd ∧ decode topoRef (.uop 0b011#3) = .ok .advance ∧
    decode topoRef (.uop 0b100#3) = .ok .count ∧ decode topoRef (.uop 0b101#3) = .ok .animate ∧
    decode topoRef (.uop 0b110#3) = .error .unusedSlotCode ∧
    decode topoRef (.uop 0b111#3) = .error .unusedSlotCode := by decide

/-- R52's table of pin words. -/
theorem test_decode_pin_words :
    decode topoRef (.pc 0b000000#6) = .ok .pinOff ∧ decode topoRef (.pc 0b011001#6) = .ok .pinOn0 ∧
    decode topoRef (.pc 0b011010#6) = .ok .pinOn1 ∧ decode topoRef (.pc 0b110010#6) = .ok .pinOn2 ∧
    decode topoRef (.pc 0b110100#6) = .ok .pinOn3 ∧ decode topoRef (.pc 0b101100#6) = .ok .pinOn4 ∧
    decode topoRef (.pc 0b101001#6) = .ok .pinOn5 ∧
    decode topoRef (.pc 0b011000#6) = .error .unusedPinWord := by decide

/-- V29: the word TOPO_REF gives LED 5 is LED 0's under the other topology. -/
theorem test_decode_under_other_topology :
    decode topoOther (.pc 0b101001#6) = .ok .pinOn0 := by decide

/-- The opcode table's rows by their own widths, and by value where the width is a whole byte. -/
theorem test_decode_table_word :
    decodeTableWord 2 0 = some .hold ∧ decodeTableWord 3 0 = some .lookup ∧
    decodeTableWord 6 0 = some .pinOff ∧ decodeTableWord 8 1 = some .tick ∧
    decodeTableWord 8 5 = some .animate ∧ decodeTableWord 8 41 = some .pinOn5 ∧
    decodeTableWord 8 6 = none := by decide

/-- R53: the codes of TOPO_REF are 0x1, 0x4, 0x6, 0x9, 0x8, 0x2. -/
theorem test_topology_codes :
    topoRef.toList.map encodeTopoEntry = [0x1#4, 0x4#4, 0x6#4, 0x9#4, 0x8#4, 0x2#4] := by decide

/-! ### Events -/

/-- V58. -/
theorem test_reset : answer (exec .reset (st #v[8, 8, 8, 8, 8, 8] 5 7 600 27 0b101001#6)) =
    some (st #v[0, 0, 0, 0, 0, 0] 0 0 0 0 0b000000#6) := by decide

/-- V59: RESET with the tick line set; the tick is dropped. -/
theorem test_reset_with_tick :
    answer (step ((st #v[8, 8, 8, 8, 8, 8] 5 7 600 27 0b101001#6).withStimulus [.ev 0b11#2])) =
      some (st #v[0, 0, 0, 0, 0, 0] 0 0 0 0 0b000000#6) := by decide

/-- V53: the pin word comes from the cursor before ADVANCE. -/
theorem test_tick_lights : answer (exec .tick (st #v[8, 3, 0, 5, 1, 8] 0 0 0 0 0b000000#6)) =
    some (st #v[8, 3, 0, 5, 1, 8] 0 1 1 0 0b011001#6) := by decide

/-- V56: wrap and fire in one tick. -/
theorem test_tick_wraps_and_fires :
    answer (exec .tick (st #v[1, 1, 0, 0, 0, 0] 3 8 749 2 0b000000#6)) =
      some (st #v[1, 1, 1, 1, 0, 0] 4 0 0 3 0b000000#6) := by decide

/-- V57: the lit LED stays lit across HOLD. -/
theorem test_hold : answer (step ((st #v[2, 2, 2, 2, 2, 2] 1 7 4 7 0b011010#6).withStimulus
    [.ev 0b00#2])) = some (st #v[2, 2, 2, 2, 2, 2] 1 7 4 7 0b011010#6) := by decide

/-! ### Micro-operations -/

/-- V6: level 5 of the last LED. -/
theorem test_lookup : (answer (exec .lookup (st #v[0, 1, 2, 3, 4, 5] 5 0 0 0 0))).map (·.wires.mask) =
    some 0xF8#8 := by decide

/-- V10: a brightness of 15 reads the mask of level 8. -/
theorem test_lookup_clamps :
    (answer (exec .lookup (st #v[9, 15, 0, 0, 0, 0] 1 0 0 0 0))).map (·.wires.mask) = some 0xFF#8 := by
  decide

/-- V16: sub-tick 2 of mask 0xF8 is off. -/
theorem test_bitsel_off :
    (answer (exec .bitsel ((st #v[0, 0, 0, 0, 0, 0] 0 2 0 0 0).withWires ⟨0xF8#8, true, false, false⟩))).map
      (·.wires.isOn) = some false := by decide

/-- V12 and V13: sub-tick 7 of mask 0xFF is on, the blank tick is off. -/
theorem test_bitsel_blank :
    (answer (exec .bitsel ((st #v[0, 0, 0, 0, 0, 0] 0 7 0 0 0).withWires ⟨0xFF#8, false, false, false⟩))).map
      (·.wires.isOn) = some true ∧
    (answer (exec .bitsel ((st #v[0, 0, 0, 0, 0, 0] 0 8 0 0 0).withWires ⟨0xFF#8, true, false, false⟩))).map
      (·.wires.isOn) = some false := by decide

/-- V24: PIN_ON3. -/
theorem test_pincmd_on :
    (answer (exec .pincmd ((st #v[0, 0, 0, 0, 0, 0] 3 0 0 0 0).withWires ⟨0, true, false, false⟩))).map
      State.pinWord = some 0b110100#6 := by decide

/-- V20: PIN_OFF. -/
theorem test_pincmd_off :
    (answer (exec .pincmd (st #v[0, 0, 0, 0, 0, 0] 5 0 0 0 0b101001#6))).map State.pinWord =
      some 0b000000#6 := by decide

/-- V33: both wrap. -/
theorem test_advance_wraps :
    (answer (exec .advance (st #v[0, 0, 0, 0, 0, 0] 5 8 0 0 0))).map (fun t => (t.led, t.sub)) =
      some (0, 0) := by decide

/-- V35: the LED does not move before the blank tick. -/
theorem test_advance_to_blank :
    (answer (exec .advance (st #v[0, 0, 0, 0, 0, 0] 5 7 0 0 0))).map (fun t => (t.led, t.sub)) =
      some (5, 8) := by decide

/-- V39: the 750th tick. -/
theorem test_count_fires :
    (answer (exec .count (st #v[0, 0, 0, 0, 0, 0] 0 0 749 0 0))).map (fun t => (t.cnt, t.wires.fire)) =
      some (0, true) := by decide

/-- V38: one before the last. -/
theorem test_count_748 :
    (answer (exec .count (st #v[0, 0, 0, 0, 0, 0] 0 0 748 0 0))).map (fun t => (t.cnt, t.wires.fire)) =
      some (749, false) := by decide

/-- V48: the first step down; pair 0, 1 leads. -/
theorem test_animate : answer (exec .animate (st #v[8, 8, 8, 8, 8, 8] 2 3 9 28 0)) =
    some (st #v[7, 7, 8, 8, 8, 8] 2 3 9 29 0) := by decide

/-- V50: the indices and the cursor wrap. -/
theorem test_animate_wraps : answer (exec .animate (st #v[1, 1, 1, 1, 1, 1] 0 0 0 53 0)) =
    some (st #v[0, 0, 0, 0, 0, 0] 0 0 0 0 0) := by decide

/-! ### Pin commands and what they light -/

/-- R81. -/
theorem test_pin_off : (answer (exec .pinOff (st #v[0, 0, 0, 0, 0, 0] 0 0 0 0 0b101001#6))).map
    State.pinWord = some 0b000000#6 := by decide

/-- V21 to V26. -/
theorem test_pin_on_words :
    ((List.finRange 6).map fun k => (answer (exec (Instr.pinOn k) State.reset)).map State.pinWord) =
      [some 0b011001#6, some 0b011010#6, some 0b110010#6, some 0b110100#6, some 0b101100#6,
        some 0b101001#6] := by decide

/-- V29: PIN_ON0 under the other topology. -/
theorem test_pin_on_other_topology :
    (answer (exec .pinOn0 (State.reset.withConfig { referenceConfig with topo := topoOther }))).map
      State.pinWord = some 0b101001#6 := by decide

/-- V27, the row of pin word 110010: LED 2 alone. -/
theorem test_lit : ((List.finRange 6).map (lit topoRef 0b110#3 0b010#3)) =
    [false, false, true, false, false, false] := by decide

/-- V28: the intermediate words between PIN_OFF and PIN_ON0. -/
theorem test_serial_words :
    directionFirst pinsOff (pinsOn topoRef[0]) = ⟨0b011#3, 0b000#3⟩ ∧
    levelFirst pinsOff (pinsOn topoRef[0]) = ⟨0b000#3, 0b001#3⟩ := by decide

/-- R55, the printed form of V58's start state. -/
theorem test_printed : (st #v[8, 8, 8, 8, 8, 8] 5 7 600 27 0b101001#6).printed =
    "bv=[8,8,8,8,8,8] led=5 sub=7 cnt=600 ai=27 pins=101001" := by decide

/-- R55: `pin_out` is the least significant field, `bv[5]` the most significant. -/
theorem test_packed : (st #v[0, 0, 0, 0, 0, 8] 0 0 0 0 0b000001#6).packed =
    BitVec.ofNat 53 (2 ^ 52 + 1) := by decide

/-- R152: 100 µs a tick, 5.4 ms a scan, 75 ms an animator step, 185 scans a second. -/
theorem test_durations :
    ticksToMicros referenceConfig 1 = 100 ∧ ticksToMicros referenceConfig 54 = 5400 ∧
    ticksToMicros referenceConfig 750 = 75000 ∧ scansPerSecond referenceConfig = 185 := by decide

/-- R58, R59: P6's opening and closing lines as event words. -/
theorem test_stimulus_words :
    (Stimulus.mk none [.tick, .hold, .tickTimes 2, .reset true]).words =
      [0b01#2, 0b00#2, 0b01#2, 0b01#2, 0b11#2] := by decide

/-- Every row's word, delivered in its own format, runs as the first step after reset. -/
theorem test_fetch_word_runs :
    answer (step (State.reset.withFetchWord 3 5)) = some (State.reset.withAnimation ⟨State.reset.bv, 1⟩) ∧
    answer (step (State.reset.withFetchWord 6 25)) = some (State.reset.withPins ⟨0b011#3, 0b001#3⟩) := by
  decide

/-! ### Witnesses: a state and operands that meet the hypotheses of each obligation -/

/-- A state with one TICK to run, and everything lit. -/
def bright : State := (st #v[8, 8, 8, 8, 8, 8] 0 0 0 0 0).withStimulus [.ev 0b01#2]

/-- The cursor, the counter and the animation cursor at the ends of their ranges. -/
def atEnds : State := st #v[8, 8, 8, 8, 8, 8] 5 8 749 53 0b101001#6

theorem witness_DecodeInvertsEncode : TopologyOk topoRef := by decide

theorem witness_DecodedWordIsTheEncodedWord :
    decode topoRef (.ev 0b11#2) = .ok .reset ∧ decode topoRef (.uop 0b101#3) = .ok .animate := by decide

theorem witness_WordsInUseAreTheSameForEveryTopology :
    TopologyOk topoOther ∧ (OpWord.uop 0b101#3).ok = true ∧ (OpWord.uop 0b110#3).ok = false := by decide

theorem witness_TopologyEntryCodesRoundTrip :
    (0b1100#4).extractLsb' 2 2 = (3 : BitVec 2) ∧ (0b0011#4).extractLsb' 0 2 = (3 : BitVec 2) := by decide

theorem witness_StepRunsTheDeliveredWord :
    bright.config.Ok ∧ bright.stimulus = .ev 0b01#2 :: [] ∧
    decode bright.config.topo (.ev 0b01#2) = .ok .tick := by decide

theorem witness_StepWithoutAnEventHolds : State.reset.config.Ok ∧ State.reset.stimulus = [] := by decide

theorem witness_StepRefusesWhatIsNoOperation :
    ¬({ referenceConfig with frame := frameRef.set 0 9 } : Config).Ok ∧ referenceConfig.Ok ∧
    6 ≤ (0b110#3 : SlotCode).toNat ∧ 6 ≤ (0b111#3 : SlotCode).toNat ∧
    (0b000001#6 : PinWord) ∉ legalPinWords := by decide

theorem witness_ResetOutranksTick :
    (State.reset.withStimulus [.ev 0b11#2]).config.Ok ∧
    (State.reset.withStimulus [.ev 0b11#2]).stimulus = .ev 0b11#2 :: [] ∧
    (0b11#2 : EventWord).getLsbD 1 = true ∧ (0b10#2 : EventWord).getLsbD 1 = true := by decide

/-- For the three statements about a TICK in range: both ends of each range, a lit and a dark tick. -/
theorem witness_TickDrivesThePinsOfTheOldCursor :
    bright.led.toNat < 6 ∧ bright.sub.toNat < 9 ∧ bright.cnt.toNat < 750 ∧ bright.ai.toNat < 54 ∧
    bright.sub.toNat ≤ 7 ∧ (bright.config.mask[8]).getLsbD bright.sub.toNat = true ∧
    atEnds.led.toNat < 6 ∧ atEnds.sub.toNat < 9 ∧ atEnds.cnt.toNat < 750 ∧ atEnds.ai.toNat < 54 := by
  decide

theorem witness_TickMovesTheScanCursor :
    atEnds.led.toNat < 6 ∧ atEnds.sub.toNat = 8 ∧ atEnds.cnt.toNat < 750 ∧ atEnds.ai.toNat < 54 ∧
    bright.led.toNat < 6 ∧ bright.sub.toNat < 8 ∧ bright.cnt.toNat < 750 ∧ bright.ai.toNat < 54 := by
  decide

theorem witness_TickCountsAndFiresAt750 :
    atEnds.led.toNat < 6 ∧ atEnds.sub.toNat < 9 ∧ atEnds.cnt.toNat + 1 = 750 ∧ atEnds.ai.toNat < 54 ∧
    bright.led.toNat < 6 ∧ bright.sub.toNat < 9 ∧ bright.cnt.toNat + 1 < 750 ∧
    bright.ai.toNat < 54 := by decide

theorem witness_LookupFetchesTheMask : atEnds.led.toNat < 6 := by decide

theorem witness_BitselSelectsTheMaskBit :
    atEnds.sub.toNat ≤ 8 ∧ ¬atEnds.sub.toNat ≤ 7 ∧ bright.sub.toNat ≤ 7 := by decide

theorem witness_PincmdIssuesOnePinCommand :
    (atEnds.withWires ⟨0, true, false, false⟩).led.toNat < 6 ∧
    (atEnds.withWires ⟨0, true, false, false⟩).wires.isOn = true ∧
    (st #v[0, 0, 0, 0, 0, 0] 7 0 0 0 0).wires.isOn = false := by decide

theorem witness_AdvanceWritesTheCursorOnly :
    atEnds.led.toNat < 6 ∧ atEnds.sub.toNat < 9 ∧ atEnds.led = 5 ∧ atEnds.sub = 8 ∧
    bright.led.toNat < 6 ∧ bright.sub.toNat < 9 ∧ bright.sub ≠ 8 := by decide

theorem witness_CountWritesTheCounterOnly :
    atEnds.cnt.toNat < 750 ∧ atEnds.cnt.toNat = 749 ∧ bright.cnt.toNat < 750 ∧
    bright.cnt.toNat ≠ 749 := by decide

theorem witness_AnimateWritesThreeMirroredPairs : atEnds.ai.toNat < 54 ∧ bright.ai.toNat < 54 := by decide

theorem witness_AnimateWritesFrameEntriesOnly :
    FrameOk atEnds.config.frame ∧ atEnds.ai.toNat < 54 := by decide

theorem witness_AnimatorOfATickWritesLevels :
    FrameOk atEnds.config.frame ∧ atEnds.led.toNat < 6 ∧ atEnds.sub.toNat < 9 ∧
    atEnds.cnt.toNat + 1 = 750 ∧ atEnds.ai.toNat < 54 := by decide

theorem witness_ReferencePinWordsAreThoseOfTheTable : State.reset.config.topo = topoRef := rfl

theorem witness_LedOutOfRangeIsRefused :
    6 ≤ (st #v[0, 0, 0, 0, 0, 0] 6 0 0 0 0).led.toNat ∧
    6 ≤ ((st #v[0, 0, 0, 0, 0, 0] 7 0 0 0 0).withWires ⟨0, true, false, false⟩).led.toNat ∧
    ((st #v[0, 0, 0, 0, 0, 0] 7 0 0 0 0).withWires ⟨0, true, false, false⟩).wires.isOn = true := by decide

theorem witness_SubOutOfRangeIsRefused :
    9 ≤ (st #v[0, 0, 0, 0, 0, 0] 0 9 0 0 0).sub.toNat ∧ 9 ≤ (st #v[0, 0, 0, 0, 0, 0] 5 15 0 0 0).sub.toNat ∧
    (st #v[0, 0, 0, 0, 0, 0] 5 15 0 0 0).led.toNat < 6 := by decide

theorem witness_CntOutOfRangeIsRefused :
    750 ≤ (st #v[0, 0, 0, 0, 0, 0] 5 8 750 0 0).cnt.toNat ∧
    (st #v[0, 0, 0, 0, 0, 0] 5 8 750 0 0).led.toNat < 6 ∧
    (st #v[0, 0, 0, 0, 0, 0] 5 8 750 0 0).sub.toNat < 9 ∧
    750 ≤ (st #v[0, 0, 0, 0, 0, 0] 0 0 1023 0 0).cnt.toNat := by decide

theorem witness_AiOutOfRangeIsRefused :
    54 ≤ (st #v[0, 0, 0, 0, 0, 0] 5 8 749 54 0).ai.toNat ∧
    (st #v[0, 0, 0, 0, 0, 0] 5 8 749 54 0).led.toNat < 6 ∧
    (st #v[0, 0, 0, 0, 0, 0] 5 8 749 54 0).sub.toNat < 9 ∧
    (st #v[0, 0, 0, 0, 0, 0] 5 8 749 54 0).cnt.toNat = 749 ∧
    54 ≤ (st #v[0, 0, 0, 0, 0, 0] 5 8 748 63 0).ai.toNat ∧
    (st #v[0, 0, 0, 0, 0, 0] 5 8 748 63 0).led.toNat < 6 ∧
    (st #v[0, 0, 0, 0, 0, 0] 5 8 748 63 0).sub.toNat < 9 ∧
    (st #v[0, 0, 0, 0, 0, 0] 5 8 748 63 0).cnt.toNat < 749 ∧
    stop (exec .animate (st #v[0, 0, 0, 0, 0, 0] 0 0 0 54 0)) = some .aiOutOfRange ∧
    stop (exec .tick (st #v[0, 0, 0, 0, 0, 0] 0 0 749 63 0)) = some .aiOutOfRange := by decide

theorem witness_AdvanceAndCountCommute :
    atEnds.led.toNat < 6 ∧ atEnds.sub.toNat < 9 ∧ atEnds.cnt.toNat < 750 := by decide

/-- One clause each: LOOKUP keeps every register, PIN_OFF and HOLD keep the wires. -/
theorem witness_OnlyItsWritersChangeARegister :
    (answer (exec .lookup bright)).isSome ∧ Instr.lookup ∉ [Instr.animate, .tick, .reset] ∧
    Instr.lookup ∉ [Instr.advance, .tick, .reset] ∧ Instr.lookup ∉ [Instr.count, .tick, .reset] ∧
    Instr.lookup.format ≠ .pc ∧ Instr.lookup ∉ [Instr.pincmd, .tick, .reset] ∧
    (answer (exec .pinOff bright)).isSome ∧ Instr.pinOff.format = .pc ∧
    (answer (exec .hold bright)).isSome ∧ Instr.hold ∈ [Instr.hold, .pincmd, .animate] := by decide

theorem witness_EveryStepKeepsTheStateLegal : Legal bright ∧ (answer (step bright)).isSome := by decide

theorem witness_LegalMachineNeverStops :
    Legal bright ∧ bright.config.Ok ∧ EventsOnly bright ∧ Legal atEnds := by decide

theorem witness_NothingOfATickSurvivesIt :
    EventsOnly bright ∧ bright.wires = Wires.idle ∧ (answer (step bright)).isSome := by decide

theorem witness_NoOperationWritesATable :
    (answer (exec .animate bright)).isSome ∧ (answer (step bright)).isSome := by decide

/-- An operation of each kind: one that writes the pin registers, one that does not. -/
theorem witness_PinRegistersAreNeverReadBack :
    Instr.pinOn5.format = .pc ∧ Instr.pincmd ∈ [Instr.pincmd, .tick, .reset] ∧
    Instr.advance.format ≠ .pc ∧ Instr.advance ∉ [Instr.pincmd, .tick, .reset] := by decide

/-- Two states that differ in the counter, the animation cursor and the frame table. -/
theorem witness_PinsIgnoreTheAnimationOfTheirTick :
    ∃ s', s' = { bright with cnt := 749, ai := 6, config := { bright.config with frame := frameAlt } } ∧
      s'.bv = bright.bv ∧ s'.led = bright.led ∧ s'.sub = bright.sub ∧
      s'.config.mask = bright.config.mask ∧ s'.config.topo = bright.config.topo ∧
      (answer (exec .tick bright)).isSome ∧ (answer (exec .tick s')).isSome :=
  ⟨_, rfl, by decide⟩

theorem witness_PinCommandLightsItsLedAlone : TopologyOk State.reset.config.topo := by decide

theorem witness_LegalPinWordLightsAtMostOneLed :
    TopologyOk atEnds.config.topo ∧ LegalPins atEnds ∧ atEnds.isLit 5 = true := by decide

/-- Two successive TICKs that light LED 0. -/
theorem witness_LitLedNeverChangesDirectly :
    ∃ t u, exec .tick bright = .next t ∧ exec .tick t = .next u ∧ t.pinWord ≠ offWord ∧
      u.pinWord ≠ offWord :=
  ⟨_, _, rfl, rfl, by decide, by decide⟩

theorem witness_CursorPositionAfterTicks : InRange atEnds ∧ InRange bright := by decide

theorem witness_TickCounterAfterTicks : InRange atEnds ∧ InRange bright := by decide

theorem witness_AnimationCursorAfterTicks : InRange atEnds ∧ InRange bright := by decide

/-- No animator step in 0 ticks from one state, one in 1 tick from the other. -/
theorem witness_BrightnessFollowsTheAnimationCursor :
    InRange bright ∧ bright.cnt.toNat + 0 < 750 ∧ InRange atEnds ∧ ¬atEnds.cnt.toNat + 1 < 750 := by decide

/-- From a counter of 0 no animator step falls in 54 TICKs. -/
theorem witness_DutyCycleIsTheBrightnessLevel :
    InRange bright ∧ MaskOk bright.config.mask ∧ TopologyOk bright.config.topo ∧
    ∀ n < 54, ∀ t, ticks n bright = .next t → t.bv[(0 : Fin 6)] = bright.bv[(0 : Fin 6)] := by
  refine ⟨by decide, by decide, by decide, fun n hn t ht => ?_⟩
  have hc : bright.cnt.toNat = 0 := rfl
  rw [ticks_keep_bv_below_threshold (by omega) ht]

/-- V52's first row in small: level 2 becomes 3 in mid-sub-frame (R113), under the reference MASK. -/
theorem witness_MixedSubFrameShowsOldOrNewLevel :
    ∃ s t, s = st #v[2, 2, 2, 2, 1, 1] 0 0 744 7 0 ∧ InRange s ∧ s.led.toNat = (0 : Fin 6).val ∧
      s.sub = 0 ∧ s.config.mask = maskRef ∧ TopologyOk s.config.topo ∧ ticks 9 s = .next t ∧
      (s.bv[(0 : Fin 6)]).toNat = 2 ∧ (t.bv[(0 : Fin 6)]).toNat = 3 :=
  ⟨_, _, rfl, by decide, rfl, rfl, rfl, by decide, rfl, rfl, rfl⟩

/-- The same under the other reading of MASK. -/
theorem witness_MixedSubFrameShowsOldOrNewLevel_otherMask :
    ∃ s t, s = (st #v[2, 2, 2, 2, 1, 1] 0 0 744 7 0).withConfig { referenceConfig with mask := maskAlt } ∧
      InRange s ∧ s.led.toNat = (0 : Fin 6).val ∧
      s.sub = 0 ∧ s.config.mask = maskAlt ∧ TopologyOk s.config.topo ∧ ticks 9 s = .next t ∧
      (s.bv[(0 : Fin 6)]).toNat = 2 ∧ (t.bv[(0 : Fin 6)]).toNat = 3 :=
  ⟨_, _, rfl, by decide, rfl, rfl, rfl, by decide, rfl, rfl, rfl⟩

theorem witness_EveryNinthTickIsDark :
    InRange atEnds ∧ (position atEnds + 0) % 9 = 8 ∧ InRange bright ∧ (position bright + 8) % 9 = 8 := by
  decide

/-- One observed event, and a delivered word that is refused. -/
theorem witness_ObservationHasOnePinWordPerEvent :
    observe 1 bright = .ok ([0b011001#6], st #v[8, 8, 8, 8, 8, 8] 0 1 1 0 0b011001#6) ∧
    observe 1 (bright.withStimulus [.uop 0b111#3]) = .error .unusedSlotCode := ⟨by rfl, by rfl⟩

theorem witness_ObservedTicksReachTheStateOfTheTicks : bright.config.Ok ∧ InRange bright := by decide

end Sys2Proof.Tests
end

namespace Sys2Proof.Machine

/-! ### The tables are never written (20_memory.md R41) -/

/-- An operation that answers leaves the whole configuration, and so each table in it, as it was: the
operations are made of writes that keep the configuration. -/
theorem exec_config {i : Instr} {s t : State} (h : exec i s = .next t) : t.config = s.config := by
  cases i with
  | reset | hold | pinOff | pinOn0 | pinOn1 | pinOn2 | pinOn3 | pinOn4 | pinOn5 =>
    cases h
    rfl
  | tick =>
    obtain ⟨m, b, p, c, n, a, -, -, -, -, -, -, rfl⟩ := tickState_cases (execTick_eq_next.mp h)
    simp
  | lookup | bitsel | pincmd | advance | count | animate =>
    obtain ⟨result, -, hwrite⟩ := bind_eq_ok.mp (toOutcome_eq_next.mp h)
    cases hwrite
    rfl

/-- The fetch takes at most a delivered word; it leaves the configuration as it was. -/
theorem fetch_config {i : Instr} {s t : State} (h : fetch s = .ok (i, t)) : t.config = s.config := by
  obtain ⟨-, ⟨-, -, rfl⟩ | ⟨w, rest, -, -, rfl⟩⟩ := fetch_cases h
  · rfl
  · exact State.withStimulus_config s rest

/-- A step that answers leaves the configuration as it was. -/
theorem step_config {s t : State} (h : step s = .next t) : t.config = s.config := by
  obtain ⟨i, u, hfetch, hexec⟩ := step_cases h
  exact (exec_config hexec).trans (fetch_config hfetch)

/-- Settles O38: the tables are fields of the configuration, which operations and steps keep. -/
theorem noOperationWritesATable : Obligations.NoOperationWritesATable := by
  unfold Obligations.NoOperationWritesATable
  refine ⟨fun i s t h => ?_, fun s t h => ?_⟩
  · simp [exec_config h]
  · simp [step_config h]

end Sys2Proof.Machine

namespace Sys2Proof.Machine

/-! ### A TICK in range answers (40_tick_and_scan.md R70) -/

/-- ADVANCE answers for a scan cursor in range, on the blank tick and on a mask tick. -/
theorem nextCursor_answers {led : LedIndex} {sub : SubTick} (hl : led.toNat < 6) (hs : sub.toNat < 9) :
    ∃ c, nextCursor led sub = .ok c := by
  by_cases h8 : sub.toNat = 8
  · exact ⟨_, nextCursor_wrap hl h8⟩
  · exact ⟨_, nextCursor_next hl (by omega)⟩

/-- COUNT answers for a counter in range, firing or not. -/
theorem nextCount_answers {cnt : TickCount} (h : cnt.toNat < 750) : ∃ n, nextCount cnt = .ok n := by
  by_cases h749 : cnt.toNat = 749
  · exact ⟨_, nextCount_fire h749⟩
  · exact ⟨_, nextCount_next (by omega)⟩

/-- Slot 5 answers for an animation cursor in range, with the strobe and without. -/
theorem animateIf_answers (fire : Bool) (f : FrameTable) (bv : Vector Level 6) {ai : FrameIndex}
    (h : ai.toNat < 54) : ∃ a, animateIf fire f bv ai = .ok a := by
  cases fire with
  | false => exact ⟨_, animateIf_false f bv ai⟩
  | true => exact ⟨_, nextAnimation_ok f h⟩

/-- A TICK with every index in range answers: none of its six micro-operations is refused. -/
theorem tick_answers {s : State} (hl : s.led.toNat < 6) (hs : s.sub.toNat < 9) (hc : s.cnt.toNat < 750)
    (ha : s.ai.toNat < 54) : ∃ t, exec .tick s = .next t := by
  obtain ⟨c, hcursor⟩ := nextCursor_answers hl hs
  obtain ⟨n, hcount⟩ := nextCount_answers hc
  obtain ⟨a, hanim⟩ := animateIf_answers n.fire s.config.frame s.bv ha
  simp only [execTick_eq_next, tickState, lookupMask_ok _ _ hl, selectBit_ok _ (Nat.le_of_lt_succ hs),
    choosePins_ok _ _ hl, hcursor, hcount, hanim, ok_bind, Except.ok.injEq, exists_eq']

/-! ### The tick that fires (43_tick_counter.md R100, 44_animator.md R110) -/

/-- ANIMATE with the frame entries written as `F(ai + 2)`, `F(ai + 1)` and `F(ai)` (R112's notation). -/
theorem nextAnimation_frameAt (f : FrameTable) {ai : FrameIndex} (h : ai.toNat < 54) :
    nextAnimation f ai =
      .ok ⟨#v[frameAt f (ai.toNat + 2), frameAt f (ai.toNat + 2), frameAt f (ai.toNat + 1),
        frameAt f (ai.toNat + 1), frameAt f ai.toNat, frameAt f ai.toNat], nextFrame ai⟩ := by
  simp only [nextAnimation_ok f h, frameAt, Nat.mod_eq_of_lt h]

/-- A TICK that fires reloads the counter, and its brightness registers and animation cursor are those
the animator computes from the state before the tick (R70, R100). -/
theorem tick_with_fire {s t : State} (h : exec .tick s = .next t) (hc : s.cnt.toNat = 749) :
    t.cnt = 0 ∧ nextAnimation s.config.frame s.ai = .ok ⟨t.bv, t.ai⟩ := by
  obtain ⟨m, b, p, c, n, a, -, -, -, -, hcount, hanim, rfl⟩ := tickState_cases (execTick_eq_next.mp h)
  rw [nextCount_fire hc] at hcount
  cases hcount
  exact ⟨rfl, hanim⟩

/-- Settles O16: a TICK in range answers; at 749 the counter reloads and the animator runs, and on every
other tick only the counter moves. -/
theorem tickCountsAndFiresAt750 : Obligations.TickCountsAndFiresAt750 := by
  unfold Obligations.TickCountsAndFiresAt750
  intro s hl hs hc ha
  obtain ⟨t, ht⟩ := tick_answers hl hs hc ha
  refine ⟨t, ht, ?_⟩
  split
  case isTrue hfire =>
    obtain ⟨hcnt, hanim⟩ := tick_with_fire ht (by omega)
    rw [nextAnimation_frameAt _ ha] at hanim
    injection hanim with hresult
    injection hresult with hbv hai
    exact ⟨hcnt, hbv.symm, hai ▸ nextFrame_toNat ha⟩
  case isFalse hfire =>
    obtain ⟨hbv, hai, hcnt⟩ := tick_without_fire ht (by omega)
    exact ⟨hcnt, hbv, hai⟩

end Sys2Proof.Machine

namespace Sys2Proof.Machine

/-! ### The values the animator writes (44_animator.md R114) -/

/-- `F(n)` is an entry of the frame table for every `n`, wrapped or not. -/
theorem frameAt_mem_entries (f : FrameTable) (n : Nat) : ∃ m : Fin 54, frameAt f n = f[m] :=
  ⟨⟨n % 54, Nat.mod_lt n (by decide)⟩, rfl⟩

/-- Each brightness register of an animator step that answers is a frame table entry: the three mirrored
pairs hold three entries (R110). -/
theorem nextAnimation_entries {f : FrameTable} {ai : FrameIndex} {a : Animated}
    (h : nextAnimation f ai = .ok a) (k : Fin 6) : ∃ n : Fin 54, a.bv[k] = f[n] := by
  by_cases hai : ai.toNat < 54
  case pos =>
    rw [nextAnimation_frameAt f hai] at h
    cases h
    match k with
    | 0 | 1 => exact frameAt_mem_entries f (ai.toNat + 2)
    | 2 | 3 => exact frameAt_mem_entries f (ai.toNat + 1)
    | 4 | 5 => exact frameAt_mem_entries f ai.toNat
  case neg =>
    rw [nextAnimation_error f hai] at h
    cases h

/-- Settles O59: the brightness registers of a TICK that fires are those of an animator step, so frame
table entries, and every entry of an admitted table is a level. -/
theorem animatorOfATickWritesLevels : Obligations.AnimatorOfATickWritesLevels := by
  unfold Obligations.AnimatorOfATickWritesLevels
  intro s hframe hl hs hc ha
  obtain ⟨t, ht⟩ := tick_answers hl hs (by omega) ha
  obtain ⟨-, hanim⟩ := tick_with_fire ht (by omega)
  refine ⟨t, ht, fun k => ?_⟩
  obtain ⟨n, hn⟩ := nextAnimation_entries hanim k
  exact ⟨⟨n, hn⟩, hn ▸ hframe n⟩

end Sys2Proof.Machine

namespace Sys2Proof.Machine

/-! ### Pin words and the decoder (30_encoding.md R50, R52, R56, R57) -/

/-- The word of PIN_ON(k) is the pin word of LED k's topology entry (R52). -/
theorem encode_pinOn (t : Topology) (k : Fin 6) : encode t (Instr.pinOn k) = .pc (onWord t[k]) := by
  match k with
  | 0 | 1 | 2 | 3 | 4 | 5 => rfl

/-- Under an admitted topology different LEDs have different PIN_ON words (U11). -/
theorem onWord_topology_injective {t : Topology} (h : TopologyOk t) :
    Function.Injective fun k : Fin 6 => onWord t[k] := by
  intro j k hw
  exact h.2 j k (onWord_injective (h.1 j) hw)

/-- Everything the pin decoder can answer: PIN_OFF for its word, PIN_ON(k) for the word of LED k (R52). -/
theorem decodePin_cases {t : Topology} {w : PinWord} {i : Instr} (h : decodePin t w = .ok i) :
    (w = offWord ∧ i = .pinOff) ∨ ∃ k : Fin 6, w = onWord t[k] ∧ i = Instr.pinOn k := by
  simp only [decodePin, ite_eq_iff, Except.ok.injEq, reduceCtorEq, and_false, or_false] at h
  obtain ⟨hw, hi⟩ | ⟨-, ⟨hw, hi⟩ | ⟨-, ⟨hw, hi⟩ | ⟨-, ⟨hw, hi⟩ | ⟨-, ⟨hw, hi⟩ | ⟨-, ⟨hw, hi⟩ |
    ⟨-, hw, hi⟩⟩⟩⟩⟩⟩ := h
  · exact .inl ⟨hw, hi.symm⟩
  · exact .inr ⟨0, hw, hi.symm⟩
  · exact .inr ⟨1, hw, hi.symm⟩
  · exact .inr ⟨2, hw, hi.symm⟩
  · exact .inr ⟨3, hw, hi.symm⟩
  · exact .inr ⟨4, hw, hi.symm⟩
  · exact .inr ⟨5, hw, hi.symm⟩

/-- The pin decoder rejects a word only when it is no pin command's word (R57). -/
theorem decodePin_error {t : Topology} {w : PinWord} {e : DecodeError} (h : decodePin t w = .error e) :
    e = .unusedPinWord ∧ w ≠ offWord ∧ ∀ k : Fin 6, w ≠ onWord t[k] := by
  simp only [decodePin, ite_eq_iff, Except.error.injEq, reduceCtorEq, and_false, false_or] at h
  obtain ⟨hoff, h0, h1, h2, h3, h4, h5, he⟩ := h
  refine ⟨he.symm, hoff, fun k => ?_⟩
  match k with
  | 0 => exact h0
  | 1 => exact h1
  | 2 => exact h2
  | 3 => exact h3
  | 4 => exact h4
  | 5 => exact h5

/-- The decoder reads PIN_ON(k) from the word of LED k's entry: no other pin command of an admitted
topology has that word. -/
theorem decodePin_onWord {t : Topology} (h : TopologyOk t) (k : Fin 6) :
    decodePin t (onWord t[k]) = .ok (Instr.pinOn k) := by
  cases hd : decodePin t (onWord t[k]) with
  | error e =>
    obtain ⟨-, -, hne⟩ := decodePin_error hd
    exact absurd rfl (hne k)
  | ok i =>
    obtain ⟨hoff, -⟩ | ⟨j, hw, rfl⟩ := decodePin_cases hd
    · exact absurd hoff (onWord_ne_offWord t[k])
    · rw [onWord_topology_injective h hw]

/-- Settles O1: an event word and a slot code are read back by the decoder's own table; the seven pin
words are distinct under an admitted topology. -/
theorem decodeInvertsEncode : Obligations.DecodeInvertsEncode := by
  unfold Obligations.DecodeInvertsEncode
  intro t h i
  have hpin : ∀ k : Fin 6, decode t (encode t (Instr.pinOn k)) = .ok (Instr.pinOn k) := fun k => by
    rw [encode_pinOn]
    exact decodePin_onWord h k
  cases i with
  | reset | tick | hold | lookup | bitsel | pincmd | advance | count | animate | pinOff => rfl
  | pinOn0 => exact hpin 0
  | pinOn1 => exact hpin 1
  | pinOn2 => exact hpin 2
  | pinOn3 => exact hpin 3
  | pinOn4 => exact hpin 4
  | pinOn5 => exact hpin 5

/-- An event word is its event's word, or the second word of RESET (R50). -/
theorem decodeEvent_cases (t : Topology) (w : EventWord) :
    .ev w = encode t (decodeEvent w) ∨ (decodeEvent w = .reset ∧ w = 0b11#2) := by
  have hw : w = 0b00#2 ∨ w = 0b01#2 ∨ w = 0b10#2 ∨ w = 0b11#2 := by
    revert w
    decide
  obtain rfl | rfl | rfl | rfl := hw
  · exact .inl rfl
  · exact .inl rfl
  · exact .inl rfl
  · exact .inr ⟨rfl, rfl⟩

/-- A slot code that is read is the slot code of the micro-operation read (R56). -/
theorem decodeSlot_cases (t : Topology) {w : SlotCode} {i : Instr} (h : decodeSlot w = .ok i) :
    w.toNat ≤ 5 ∧ .uop w = encode t i := by
  unfold decodeSlot at h
  split at h
  case h_7 => cases h
  all_goals
    rename_i hw
    cases h
    exact ⟨by omega, congrArg OpWord.uop (BitVec.eq_of_toNat_eq hw)⟩

/-- The slot decoder rejects the codes above 101 and no other (R57). -/
theorem decodeSlot_error {w : SlotCode} {e : DecodeError} (h : decodeSlot w = .error e) :
    e = .unusedSlotCode ∧ 5 < w.toNat := by
  revert w
  cases e <;> decide

/-- Settles O2: in each of the three code spaces a word that is read is the operation's own word, but for
the event word 11. -/
theorem decodedWordIsTheEncodedWord : Obligations.DecodedWordIsTheEncodedWord := by
  unfold Obligations.DecodedWordIsTheEncodedWord
  intro t w i h
  cases w with
  | ev w =>
    cases h
    obtain hw | ⟨hi, rfl⟩ := decodeEvent_cases t w
    · exact .inl hw
    · exact .inr ⟨hi, rfl⟩
  | uop w => exact .inl (decodeSlot_cases t h).2
  | pc w =>
    left
    obtain ⟨rfl, rfl⟩ | ⟨k, rfl, rfl⟩ := decodePin_cases h
    · rfl
    · exact (encode_pinOn t k).symm

/-- The words of the seven pin commands under a topology (R52). -/
def pinCommandWords (t : Topology) : Finset PinWord :=
  insert offWord (Finset.univ.image fun k : Fin 6 => onWord t[k])

/-- Under an admitted topology the seven pin commands have seven different words. -/
theorem pinCommandWords_card {t : Topology} (h : TopologyOk t) : (pinCommandWords t).card = 7 := by
  have hoff : offWord ∉ Finset.univ.image fun k : Fin 6 => onWord t[k] := by
    simp [onWord_ne_offWord]
  rw [pinCommandWords, Finset.card_insert_of_notMem hoff,
    Finset.card_image_of_injective _ (onWord_topology_injective h)]
  rfl

/-- The pin commands' words are the seven legal ones, whatever the admitted topology: they are seven
different words among the seven (R52). -/
theorem pinCommandWords_eq {t : Topology} (h : TopologyOk t) :
    pinCommandWords t = legalPinWords.toFinset := by
  refine Finset.eq_of_subset_of_card_le ?_ ?_
  · simp only [pinCommandWords, Finset.insert_subset_iff, Finset.image_subset_iff, List.mem_toFinset]
    exact ⟨offWord_mem_legal, fun k _ => onWord_mem_legal (h.1 k)⟩
  · rw [pinCommandWords_card h]
    decide

/-- A pin word is legal exactly when it is a pin command's word under the topology (R52). -/
theorem mem_legalPinWords_iff {t : Topology} (h : TopologyOk t) (w : PinWord) :
    w ∈ legalPinWords ↔ w = offWord ∨ ∃ k : Fin 6, w = onWord t[k] := by
  simp [← List.mem_toFinset, ← pinCommandWords_eq h, pinCommandWords, eq_comm]

/-- Settles O5: every event word is in use, the slot decoder reads the codes up to 101, and the pin
decoder reads the seven words. -/
theorem wordsInUseAreTheSameForEveryTopology : Obligations.WordsInUseAreTheSameForEveryTopology := by
  unfold Obligations.WordsInUseAreTheSameForEveryTopology
  intro t h w
  cases w with
  | ev w => exact ⟨fun _ => ⟨_, rfl⟩, fun _ => rfl⟩
  | uop w =>
    simp only [OpWord.ok, decide_eq_true_eq, decode]
    cases hd : decodeSlot w with
    | error e =>
      have := (decodeSlot_error hd).2
      simp [this]
    | ok i => simp [(decodeSlot_cases t hd).1]
  | pc w =>
    simp only [OpWord.ok, decide_eq_true_eq, decode, mem_legalPinWords_iff h]
    cases hd : decodePin t w with
    | error e =>
      obtain ⟨-, hoff, hon⟩ := decodePin_error hd
      simp only [hoff, hon, exists_false, or_false, reduceCtorEq]
    | ok i =>
      obtain ⟨hw, -⟩ | ⟨k, hw, -⟩ := decodePin_cases hd
      · simp [hw]
      · simpa using .inr ⟨k, hw⟩

/-- Settles O3: the four event words are the whole code space, and each is read from the table (R50). -/
theorem eventWordsAreAllDefined : Obligations.EventWordsAreAllDefined := by
  unfold Obligations.EventWordsAreAllDefined
  exact fun t => ⟨rfl, rfl, rfl, rfl⟩

/-- Settles O4: the model decodes the words of the opcode table to their rows. -/
theorem tableWordsDecodeToTheirRows : Obligations.TableWordsDecodeToTheirRows := by
  unfold Obligations.TableWordsDecodeToTheirRows
  decide

/-- Pin code 3 is no pin (R53). -/
theorem pinOfCode_three : pinOfCode 3 = none := rfl

/-- Settles O6: the code of each of the nine pairs is read back, and a half with pin code 3 is no pin. -/
theorem topologyEntryCodesRoundTrip : Obligations.TopologyEntryCodesRoundTrip := by
  unfold Obligations.TopologyEntryCodesRoundTrip
  refine ⟨fun ⟨a, c⟩ => ?_, fun w h => ?_⟩
  · cases a <;> cases c <;> rfl
  · unfold decodeTopoEntry
    obtain h | h := h
    · rw [h, pinOfCode_three]
    · rw [h, pinOfCode_three]
      cases pinOfCode (w.extractLsb' 2 2) <;> rfl

end Sys2Proof.Machine

namespace Sys2Proof.Machine

/-! ### What each operation does, once for all sixteen (30_encoding.md R49) -/

/-- The two pin registers as a pin command leaves them: PIN_OFF's, or PIN_ON's for some LED (R52). -/
def IsPinCommand (t : Topology) (p : PinPair) : Prop :=
  p = pinsOff ∨ ∃ k : Fin 6, p = pinsOn t[k]

/-- What an operation that answers has done, by kind of operation. -/
inductive Executes (s : State) : Instr → State → Prop where
  | reset : Executes s .reset s.resetRegisters
  | tick {t : State} (h : tickState s = .ok t) : Executes s .tick t
  | hold : Executes s .hold s
  /-- LOOKUP and BITSEL write a result and no register. -/
  | result {i : Instr} (hi : i = .lookup ∨ i = .bitsel) (w : Wires) : Executes s i (s.withWires w)
  /-- PINCMD and the pin commands write the pin registers. -/
  | pins {i : Instr} {p : PinPair} (hi : i = .pincmd ∨ i.format = .pc)
      (hp : IsPinCommand s.config.topo p) : Executes s i (s.withPins p)
  | advance {c : Cursor} (h : nextCursor s.led s.sub = .ok c) :
      Executes s .advance ((s.withCursor c.led c.sub).withWires { s.wires with wrap := c.wrap })
  | count {c : Counted} (h : nextCount s.cnt = .ok c) :
      Executes s .count ((s.withCount c.cnt).withWires { s.wires with fire := c.fire })
  | animate {a : Animated} (h : nextAnimation s.config.frame s.ai = .ok a) :
      Executes s .animate (s.withAnimation a)

/-- PINCMD's two arms are pin commands (R80). -/
theorem choosePins_isPinCommand {t : Topology} {isOn : Bool} {led : LedIndex} {p : PinPair}
    (h : choosePins t isOn led = .ok p) : IsPinCommand t p := by
  obtain ⟨-, rfl⟩ | ⟨-, hl, rfl⟩ := choosePins_cases h
  · exact .inl rfl
  · exact .inr ⟨⟨led.toNat, hl⟩, rfl⟩

/-- Every answer of `exec` is one of these. -/
theorem exec_cases {i : Instr} {s t : State} (h : exec i s = .next t) : Executes s i t := by
  have hpinOn : ∀ {i : Instr} (k : Fin 6), i.format = .pc →
      Executes s i (s.withPins (pinsOn s.config.topo[k])) := fun k hi => .pins (.inr hi) (.inr ⟨k, rfl⟩)
  cases i with
  | reset => cases h; exact .reset
  | tick => exact .tick (execTick_eq_next.mp h)
  | hold => cases h; exact .hold
  | lookup =>
    obtain ⟨m, -, ht⟩ := bind_eq_ok.mp (toOutcome_eq_next.mp h)
    cases ht
    exact .result (.inl rfl) _
  | bitsel =>
    obtain ⟨b, -, ht⟩ := bind_eq_ok.mp (toOutcome_eq_next.mp h)
    cases ht
    exact .result (.inr rfl) _
  | pincmd =>
    obtain ⟨p, hp, ht⟩ := bind_eq_ok.mp (toOutcome_eq_next.mp h)
    cases ht
    exact .pins (.inl rfl) (choosePins_isPinCommand hp)
  | advance =>
    obtain ⟨c, hc, ht⟩ := bind_eq_ok.mp (toOutcome_eq_next.mp h)
    cases ht
    exact .advance hc
  | count =>
    obtain ⟨c, hc, ht⟩ := bind_eq_ok.mp (toOutcome_eq_next.mp h)
    cases ht
    exact .count hc
  | animate =>
    obtain ⟨a, ha, ht⟩ := bind_eq_ok.mp (toOutcome_eq_next.mp h)
    cases ht
    exact .animate ha
  | pinOff => cases h; exact .pins (.inr rfl) (.inl rfl)
  | pinOn0 => cases h; exact hpinOn 0 rfl
  | pinOn1 => cases h; exact hpinOn 1 rfl
  | pinOn2 => cases h; exact hpinOn 2 rfl
  | pinOn3 => cases h; exact hpinOn 3 rfl
  | pinOn4 => cases h; exact hpinOn 4 rfl
  | pinOn5 => cases h; exact hpinOn 5 rfl

/-- A TICK leaves idle wires, and keeps the configuration and the words still to be delivered (R18). -/
theorem tickState_frame {s t : State} (h : tickState s = .ok t) :
    t.wires = Wires.idle ∧ t.config = s.config ∧ t.stimulus = s.stimulus := by
  obtain ⟨m, b, p, c, n, a, -, -, -, -, -, -, rfl⟩ := tickState_cases h
  exact ⟨rfl, rfl, rfl⟩

/-- No operation takes a delivered word; that is the fetch's. -/
theorem exec_stimulus {i : Instr} {s t : State} (h : exec i s = .next t) : t.stimulus = s.stimulus := by
  cases exec_cases h with
  | tick ht => exact (tickState_frame ht).2.2
  | _ => rfl

/-- Settles O33: each kind of operation writes the registers it names; a TICK and a RESET are excluded
from every clause about registers. -/
theorem onlyItsWritersChangeARegister : Obligations.OnlyItsWritersChangeARegister := by
  unfold Obligations.OnlyItsWritersChangeARegister
  intro i s t h
  have hconfig := exec_config h
  have hstim := exec_stimulus h
  cases exec_cases h with
  | result hi w => obtain rfl | rfl := hi <;> simp [Instr.format]
  | pins hi hp =>
    refine ⟨fun _ => ⟨rfl, rfl⟩, fun _ => ⟨rfl, rfl⟩, fun _ => rfl, fun hpc hw => ?_,
      fun _ => rfl, hconfig, hstim⟩
    obtain rfl | hi := hi
    · simp at hw
    · exact absurd hi hpc
  | tick => simp [hconfig, hstim, Instr.format]
  | _ => simp [Instr.format]

/-! ### The seven invariants (10_state.md R21) -/

/-- A pin command of an admitted topology leaves a legal pin word (R52). -/
theorem IsPinCommand.legal {t : Topology} {p : PinPair} (h : IsPinCommand t p) (ht : TopologyOk t) :
    joinPins p.dir p.out ∈ legalPinWords := by
  obtain rfl | ⟨k, rfl⟩ := h
  · exact offWord_mem_legal
  · exact onWord_mem_legal (ht.1 k)

/-- ADVANCE keeps the scan cursor in range (R90). -/
theorem nextCursor_inRange {led : LedIndex} {sub : SubTick} {c : Cursor}
    (h : nextCursor led sub = .ok c) : c.led.toNat ≤ 5 ∧ c.sub.toNat ≤ 8 := by
  obtain ⟨hl, hs, ⟨-, hled, hsub, -⟩ | ⟨h8, hled, hsub, -⟩⟩ := nextCursor_cases h
  · omega
  · rw [hled]
    omega

/-- COUNT keeps the counter in range (R100). -/
theorem nextCount_inRange {cnt : TickCount} {n : Counted} (h : nextCount cnt = .ok n) :
    n.cnt.toNat ≤ 749 := by
  obtain ⟨-, hcnt, -⟩ := nextCount_cases h
  omega

/-- An animator step that answers moves an animation cursor in range to its successor (R110). -/
theorem nextAnimation_ai {f : FrameTable} {ai : FrameIndex} {a : Animated}
    (h : nextAnimation f ai = .ok a) : ai.toNat < 54 ∧ a.ai.toNat = (ai.toNat + 1) % 54 := by
  by_cases hai : ai.toNat < 54
  case pos =>
    rw [nextAnimation_ok f hai] at h
    cases h
    exact ⟨hai, nextFrame_toNat hai⟩
  case neg =>
    rw [nextAnimation_error f hai] at h
    cases h

/-- The six brightness registers are levels, equal in pairs: R21 items 1 and 7 of the registers alone. -/
def LevelPairs (bv : Vector Level 6) : Prop :=
  (∀ k : Fin 6, bv[k].toNat ≤ 8) ∧ bv[0] = bv[1] ∧ bv[2] = bv[3] ∧ bv[4] = bv[5]

/-- What is legal, with the brightness registers taken together. -/
theorem legal_iff (s : State) : Legal s ↔ LevelPairs s.bv ∧ InRange s ∧ LegalPins s := by
  unfold LevelPairs
  tauto

/-- An animator step writes levels in pairs, and leaves its cursor in range (R110, R114). -/
theorem nextAnimation_legal {f : FrameTable} {ai : FrameIndex} {a : Animated} (hf : FrameOk f)
    (h : nextAnimation f ai = .ok a) : LevelPairs a.bv ∧ a.ai.toNat ≤ 53 := by
  obtain ⟨hai, hnext⟩ := nextAnimation_ai h
  refine ⟨⟨fun k => ?_, ?_⟩, by omega⟩
  · obtain ⟨n, hn⟩ := nextAnimation_entries h k
    exact hn ▸ hf n
  · rw [nextAnimation_ok f hai] at h
    cases h
    exact ⟨rfl, rfl, rfl⟩

/-- Slot 5 keeps levels in pairs and the animation cursor in range, strobe or none. -/
theorem animateIf_legal {fire : Bool} {f : FrameTable} {bv : Vector Level 6} {ai : FrameIndex}
    {a : Animated} (hf : FrameOk f) (hbv : LevelPairs bv) (hai : ai.toNat ≤ 53)
    (h : animateIf fire f bv ai = .ok a) : LevelPairs a.bv ∧ a.ai.toNat ≤ 53 := by
  cases fire with
  | false =>
    cases h
    exact ⟨hbv, hai⟩
  | true => exact nextAnimation_legal hf h

/-- Every operation keeps the seven invariants, under a configuration the spec admits. -/
theorem exec_keeps_legal {i : Instr} {s t : State} (hc : s.config.Ok) (hs : Legal s)
    (h : exec i s = .next t) : Legal t := by
  obtain ⟨-, htopo, hframe⟩ := hc
  obtain ⟨hbv, ⟨hl, hsub, hcnt, hai⟩, hpins⟩ := (legal_iff s).mp hs
  cases exec_cases h with
  | hold => exact hs
  | result hi w => exact hs
  | reset =>
    have hlevels : LevelPairs #v[0, 0, 0, 0, 0, 0] := by unfold LevelPairs; decide
    have hpin : LegalPins s.resetRegisters := by
      rw [LegalPins, State.resetRegisters_pinWord]
      exact offWord_mem_legal
    exact (legal_iff _).mpr ⟨hlevels, by simp [InRange], hpin⟩
  | pins hi hp => exact (legal_iff _).mpr ⟨hbv, ⟨hl, hsub, hcnt, hai⟩, hp.legal htopo⟩
  | advance hcursor =>
    obtain ⟨hl', hsub'⟩ := nextCursor_inRange hcursor
    exact (legal_iff _).mpr ⟨hbv, ⟨hl', hsub', hcnt, hai⟩, hpins⟩
  | count hcount => exact (legal_iff _).mpr ⟨hbv, ⟨hl, hsub, nextCount_inRange hcount, hai⟩, hpins⟩
  | animate hanim =>
    obtain ⟨hbv', hai'⟩ := nextAnimation_legal hframe hanim
    exact (legal_iff _).mpr ⟨hbv', ⟨hl, hsub, hcnt, hai'⟩, hpins⟩
  | tick htick =>
    obtain ⟨m, b, p, c, n, a, -, -, hp, hcursor, hcount, hanim, rfl⟩ := tickState_cases htick
    obtain ⟨hl', hsub'⟩ := nextCursor_inRange hcursor
    obtain ⟨hbv', hai'⟩ := animateIf_legal hframe hbv hai hanim
    exact (legal_iff _).mpr ⟨hbv', ⟨hl', hsub', nextCount_inRange hcount, hai'⟩,
      (choosePins_isPinCommand hp).legal htopo⟩

/-- Settles O35: the fetch admits the configuration and changes no register, and the operation it
answers keeps the invariants. -/
theorem everyStepKeepsTheStateLegal : Obligations.EveryStepKeepsTheStateLegal := by
  unfold Obligations.EveryStepKeepsTheStateLegal
  intro s t hs h
  obtain ⟨i, u, hfetch, hexec⟩ := step_cases h
  obtain ⟨hc, ⟨-, -, rfl⟩ | ⟨w, rest, -, -, rfl⟩⟩ := fetch_cases hfetch
  · exact exec_keeps_legal hc hs hexec
  · exact exec_keeps_legal (s := s.withStimulus rest) hc hs hexec

/-! ### The fetch and the step, case by case (30_encoding.md R57, R58) -/

/-- With nothing delivered the fetch answers HOLD. -/
theorem fetch_nil {s : State} (hc : s.config.Ok) (hs : s.stimulus = []) : fetch s = .ok (.hold, s) := by
  rw [fetch, if_pos hc, hs]

/-- The fetch answers the operation of the first delivered word, with the word taken. -/
theorem fetch_decoded {s : State} {w : OpWord} {rest : List OpWord} {i : Instr} (hc : s.config.Ok)
    (hs : s.stimulus = w :: rest) (hd : decode s.config.topo w = .ok i) :
    fetch s = .ok (i, s.withStimulus rest) := by
  rw [fetch, if_pos hc, hs]
  simp only [hd]

/-- The fetch refuses a delivered word that the decoder rejects. -/
theorem fetch_rejected {s : State} {w : OpWord} {rest : List OpWord} {e : DecodeError}
    (hc : s.config.Ok) (hs : s.stimulus = w :: rest) (hd : decode s.config.topo w = .error e) :
    fetch s = .error (refusalOf e) := by
  rw [fetch, if_pos hc, hs]
  simp only [hd]

/-- A step is the fetched operation on the fetched state. -/
theorem step_of_fetch {s u : State} {i : Instr} (h : fetch s = .ok (i, u)) : step s = exec i u := by
  unfold step
  simp only [h]

/-- A step is refused for the fetch's reason. -/
theorem step_of_fetch_error {s : State} {r : Refusal} (h : fetch s = .error r) : step s = .refused r := by
  unfold step
  simp only [h]

/-- Settles O8: the fetch answers the decoded operation. -/
theorem stepRunsTheDeliveredWord : Obligations.StepRunsTheDeliveredWord := by
  unfold Obligations.StepRunsTheDeliveredWord
  exact fun s w rest i hc hs hd => step_of_fetch (fetch_decoded hc hs hd)

/-- Settles O9: the fetch answers HOLD, which keeps the state. -/
theorem stepWithoutAnEventHolds : Obligations.StepWithoutAnEventHolds := by
  unfold Obligations.StepWithoutAnEventHolds
  exact fun s hc hs => step_of_fetch (fetch_nil hc hs)

/-- Settles O10: the fetch refuses the configuration before it looks at a word, and a word that the slot
or the pin decoder rejects. -/
theorem stepRefusesWhatIsNoOperation : Obligations.StepRefusesWhatIsNoOperation := by
  unfold Obligations.StepRefusesWhatIsNoOperation
  intro s
  refine ⟨fun hc => ?_, fun w rest hc hs hw => ?_, fun w rest hc hs hw => ?_⟩
  · exact step_of_fetch_error (if_neg hc)
  · cases hd : decodeSlot w with
    | ok i =>
      have := (decodeSlot_cases s.config.topo hd).1
      omega
    | error e =>
      obtain ⟨rfl, -⟩ := decodeSlot_error hd
      exact step_of_fetch_error (fetch_rejected hc hs hd)
  · rw [mem_legalPinWords_iff hc.2.1] at hw
    cases hd : decodePin s.config.topo w with
    | ok i =>
      obtain ⟨hoff, -⟩ | ⟨k, hon, -⟩ := decodePin_cases hd
      · exact absurd (.inl hoff) hw
      · exact absurd (.inr ⟨k, hon⟩) hw
    | error e =>
      obtain ⟨rfl, -, -⟩ := decodePin_error hd
      exact step_of_fetch_error (fetch_rejected hc hs hd)

/-- Settles O11: with bit 1 set the event word is RESET's, and RESET writes every register. -/
theorem resetOutranksTick : Obligations.ResetOutranksTick := by
  unfold Obligations.ResetOutranksTick
  intro s w rest hc hs hw
  have hd : decode s.config.topo (.ev w) = .ok .reset := congrArg Except.ok (if_pos hw)
  exact ⟨_, step_of_fetch (fetch_decoded hc hs hd), rfl, rfl, rfl, rfl, rfl, rfl, rfl, rfl⟩

/-! ### Runs under event words (00_scope.md R8, 60_exceptions.md R120) -/

/-- An event word gives one of the three events (R50). -/
theorem decodeEvent_event (w : EventWord) :
    decodeEvent w = .reset ∨ decodeEvent w = .tick ∨ decodeEvent w = .hold := by
  revert w
  decide

/-- With event words only, the fetch of an admitted configuration answers one of the three events, with
the first word taken. -/
theorem fetch_event {s : State} (hc : s.config.Ok) (he : EventsOnly s) :
    ∃ i, (i = .reset ∨ i = .tick ∨ i = .hold) ∧ fetch s = .ok (i, s.withStimulus s.stimulus.tail) := by
  match hs : s.stimulus with
  | [] =>
    refine ⟨.hold, .inr (.inr rfl), ?_⟩
    rw [fetch_nil hc hs, List.tail_nil, ← hs, State.withStimulus_self]
  | .ev w :: rest => exact ⟨_, decodeEvent_event w, fetch_decoded hc hs rfl⟩
  | .uop w :: rest => exact absurd (he (.uop w) (hs ▸ List.mem_cons_self)) Bool.false_ne_true
  | .pc w :: rest => exact absurd (he (.pc w) (hs ▸ List.mem_cons_self)) Bool.false_ne_true

/-- A step on event words is an event on the state with the first word taken. -/
theorem step_event {s : State} (hc : s.config.Ok) (he : EventsOnly s) :
    ∃ i, (i = .reset ∨ i = .tick ∨ i = .hold) ∧ step s = exec i (s.withStimulus s.stimulus.tail) := by
  obtain ⟨i, hi, hfetch⟩ := fetch_event hc he
  exact ⟨i, hi, step_of_fetch hfetch⟩

/-- Taking a word leaves event words. -/
theorem eventsOnly_tail {s t : State} (he : EventsOnly s) (ht : t.stimulus = s.stimulus.tail) :
    EventsOnly t := by
  intro w hw
  rw [ht] at hw
  exact he w (List.mem_of_mem_tail hw)

/-- A TICK answers in every state in range. -/
theorem tick_answers_inRange {s : State} (h : InRange s) : ∃ t, exec .tick s = .next t := by
  obtain ⟨hl, hs, hc, ha⟩ := h
  exact tick_answers (by omega) (by omega) (by omega) (by omega)

/-- Settles O36: each of the three events answers in a legal state, and keeps it legal. -/
theorem legalMachineNeverStops : Obligations.LegalMachineNeverStops := by
  unfold Obligations.LegalMachineNeverStops
  intro s hs hc he
  obtain ⟨i, hi, hstep⟩ := step_event hc he
  obtain ⟨t, ht⟩ : ∃ t, exec i (s.withStimulus s.stimulus.tail) = .next t := by
    obtain rfl | rfl | rfl := hi
    · exact ⟨_, rfl⟩
    · exact tick_answers_inRange hs.2.1
    · exact ⟨_, rfl⟩
  have hstim := exec_stimulus ht
  exact ⟨t, hstep.trans ht, exec_keeps_legal (s := s.withStimulus s.stimulus.tail) hc hs ht,
    exec_config (s := s.withStimulus s.stimulus.tail) ht, eventsOnly_tail he hstim, hstim⟩

/-- Settles O37: RESET and TICK leave idle wires, and HOLD keeps those it finds. -/
theorem nothingOfATickSurvivesIt : Obligations.NothingOfATickSurvivesIt := by
  unfold Obligations.NothingOfATickSurvivesIt
  intro s t he hidle h
  obtain ⟨_, _, hfetch, -⟩ := step_cases h
  obtain ⟨i, hi, hstep⟩ := step_event (fetch_cases hfetch).1 he
  rw [hstep] at h
  refine ⟨?_, eventsOnly_tail he (exec_stimulus h)⟩
  obtain rfl | rfl | rfl := hi
  · cases h
    rfl
  · exact (tickState_frame (execTick_eq_next.mp h)).1
  · cases h
    exact hidle

/-- Settles O34: the reset state written out. -/
theorem resetStateIsLegal : Obligations.ResetStateIsLegal := by
  unfold Obligations.ResetStateIsLegal
  decide

end Sys2Proof.Machine

namespace Sys2Proof.Machine

/-! ### The meanings of the operations, as equations (40_tick_and_scan.md R70) -/

theorem exec_tick (s : State) : exec .tick s = toOutcome (tickState s) := rfl

theorem exec_lookup (s : State) :
    exec .lookup s = toOutcome (lookupMask s.config.mask s.bv s.led >>= fun m =>
      .ok (s.withWires { s.wires with mask := m })) := rfl

theorem exec_bitsel (s : State) :
    exec .bitsel s = toOutcome (selectBit s.wires.mask s.sub >>= fun b =>
      .ok (s.withWires { s.wires with isOn := b })) := rfl

theorem exec_pincmd (s : State) :
    exec .pincmd s = toOutcome (choosePins s.config.topo s.wires.isOn s.led >>= fun p =>
      .ok (s.withPins p)) := rfl

theorem exec_advance (s : State) :
    exec .advance s = toOutcome (nextCursor s.led s.sub >>= fun c =>
      .ok ((s.withCursor c.led c.sub).withWires { s.wires with wrap := c.wrap })) := rfl

theorem exec_count (s : State) :
    exec .count s = toOutcome (nextCount s.cnt >>= fun c =>
      .ok ((s.withCount c.cnt).withWires { s.wires with fire := c.fire })) := rfl

theorem exec_animate (s : State) :
    exec .animate s = toOutcome (nextAnimation s.config.frame s.ai >>= fun a =>
      .ok (s.withAnimation a)) := rfl

theorem exec_pinOn (k : Fin 6) (s : State) :
    exec (Instr.pinOn k) s = .next (s.withPins (pinsOn s.config.topo[k])) := by
  match k with
  | 0 | 1 | 2 | 3 | 4 | 5 => rfl

/-! ### What each operation computes -/

/-- The decision `on` is the mask's bit at `sub`; on the blank tick that is bit 8, which no mask has. -/
theorem onCond_eq_getLsbD (m : Mask) (sub : SubTick) : onCond m sub = m.getLsbD sub.toNat := by
  unfold onCond
  split
  case isTrue h =>
    subst h
    exact (BitVec.getLsbD_of_ge m 8 (le_refl 8)).symm
  case isFalse h => rfl

/-- ADVANCE for a cursor in range (R90). -/
theorem nextCursor_ok {led : LedIndex} {sub : SubTick} (hl : led.toNat < 6) (hs : sub.toNat < 9) :
    nextCursor led sub = .ok ⟨if sub = 8 then (if led = 5 then 0 else led + 1) else led,
      if sub = 8 then 0 else sub + 1, decide (sub = 8)⟩ := by
  by_cases h8 : sub = 8
  · subst h8
    simpa using nextCursor_wrap hl rfl
  · have hlt : sub.toNat < 8 := by
      have : sub.toNat ≠ 8 := fun h => h8 (BitVec.eq_of_toNat_eq h)
      omega
    rw [if_neg h8, if_neg h8, decide_eq_false h8, nextCursor_next hl hlt]

/-- COUNT for a counter in range (R100). -/
theorem nextCount_ok {cnt : TickCount} (h : cnt.toNat < 750) :
    nextCount cnt = .ok ⟨if cnt.toNat = 749 then 0 else cnt + 1, decide (cnt.toNat = 749)⟩ := by
  by_cases h749 : cnt.toNat = 749
  · simpa [h749] using nextCount_fire h749
  · simpa [h749] using nextCount_next (by omega)

theorem nextCursor_error_led {led : LedIndex} (h : 6 ≤ led.toNat) (sub : SubTick) :
    nextCursor led sub = .error .ledOutOfRange := if_pos h

theorem nextCursor_error_sub {led : LedIndex} {sub : SubTick} (hl : led.toNat < 6)
    (hs : 9 ≤ sub.toNat) : nextCursor led sub = .error .subOutOfRange := by
  rw [nextCursor, if_neg (by omega), if_pos hs]

theorem nextCount_error {cnt : TickCount} (h : 750 ≤ cnt.toNat) :
    nextCount cnt = .error .cntOutOfRange := if_pos h

/-! ### The operations run alone -/

/-- Settles O12: RESET's written state. -/
theorem resetPutsEveryRegisterToZero : Obligations.ResetPutsEveryRegisterToZero := by
  unfold Obligations.ResetPutsEveryRegisterToZero
  intro s
  have hzero : ∀ k : Fin 6, (#v[0, 0, 0, 0, 0, 0] : Vector Level 6)[k] = 0 := by decide
  exact ⟨s.resetRegisters, rfl, hzero, rfl, rfl, rfl, rfl, rfl, rfl, rfl, rfl, rfl⟩

/-- Settles O13: HOLD answers the state it is given. -/
theorem holdKeepsEveryRegister : Obligations.HoldKeepsEveryRegister := by
  unfold Obligations.HoldKeepsEveryRegister
  exact fun s => rfl

/-- Settles O17: LOOKUP's table read, with the clamp as a minimum. -/
theorem lookupFetchesTheMask : Obligations.LookupFetchesTheMask := by
  unfold Obligations.LookupFetchesTheMask
  intro s hl
  rw [exec_lookup, lookupMask_ok _ _ hl, maskAt_eq]
  rfl

/-- Settles O18: `on` is the mask's bit, and bit 8 of a mask is clear. -/
theorem bitselSelectsTheMaskBit : Obligations.BitselSelectsTheMaskBit := by
  unfold Obligations.BitselSelectsTheMaskBit
  intro s hs
  rw [exec_bitsel, selectBit_ok _ hs, onCond_eq_getLsbD]
  split
  case isTrue h => rfl
  case isFalse h =>
    rw [BitVec.getLsbD_of_ge _ _ (by omega)]
    rfl

/-- Settles O19: PINCMD's two arms. -/
theorem pincmdIssuesOnePinCommand : Obligations.PincmdIssuesOnePinCommand := by
  unfold Obligations.PincmdIssuesOnePinCommand
  refine ⟨fun s hl hon => ?_, fun s hoff => ?_⟩
  · rw [exec_pincmd, hon, choosePins_on _ hl]
    rfl
  · rw [exec_pincmd, hoff, choosePins_off]
    rfl

/-- Settles O20: ADVANCE writes the successor of a cursor in range. -/
theorem advanceWritesTheCursorOnly : Obligations.AdvanceWritesTheCursorOnly := by
  unfold Obligations.AdvanceWritesTheCursorOnly
  intro s hl hs
  rw [exec_advance, nextCursor_ok hl hs]
  rfl

/-- Settles O21: COUNT writes the successor of a counter in range. -/
theorem countWritesTheCounterOnly : Obligations.CountWritesTheCounterOnly := by
  unfold Obligations.CountWritesTheCounterOnly
  intro s hc
  rw [exec_count, nextCount_ok hc]
  rfl

/-- The successor of a frame index in range, as a word (R76). -/
theorem nextFrame_eq_ofNat {n : FrameIndex} (h : n.toNat < 54) :
    nextFrame n = BitVec.ofNat 6 ((n.toNat + 1) % 54) := by
  rw [← nextFrame_toNat h, BitVec.ofNat_toNat, BitVec.setWidth_eq]

/-- Settles O22: ANIMATE writes what the animator computes from a cursor in range. -/
theorem animateWritesThreeMirroredPairs : Obligations.AnimateWritesThreeMirroredPairs := by
  unfold Obligations.AnimateWritesThreeMirroredPairs
  intro s ha
  rw [exec_animate, nextAnimation_frameAt _ ha, nextFrame_eq_ofNat ha]
  rfl

/-- Settles O23: the registers an animator step writes are frame entries, which an admitted table bounds
by 8. -/
theorem animateWritesFrameEntriesOnly : Obligations.AnimateWritesFrameEntriesOnly := by
  unfold Obligations.AnimateWritesFrameEntriesOnly
  intro s hframe ha
  have hanim := nextAnimation_ok s.config.frame ha
  refine ⟨_, by rw [exec_animate, hanim, ok_bind, toOutcome_ok], fun k => ?_⟩
  obtain ⟨n, hn⟩ := nextAnimation_entries hanim k
  exact ⟨⟨n, hn⟩, hn ▸ hframe n⟩

/-- Settles O24: PIN_OFF's write. -/
theorem pinOffClearsBothRegisters : Obligations.PinOffClearsBothRegisters := by
  unfold Obligations.PinOffClearsBothRegisters
  exact fun s => rfl

/-- Settles O25: each PIN_ON's write, from its own topology entry. -/
theorem pinOnDrivesItsLed : Obligations.PinOnDrivesItsLed := by
  unfold Obligations.PinOnDrivesItsLed
  exact fun s => ⟨rfl, rfl, rfl, rfl, rfl, rfl⟩

/-- PIN_ON(k) puts out the pin word of LED k's entry (R52). -/
theorem pinOn_pinWord (s : State) (k : Fin 6) :
    ∃ t, exec (Instr.pinOn k) s = .next t ∧ t.pinWord = onWord s.config.topo[k] :=
  ⟨_, exec_pinOn k s, rfl⟩

/-- Settles O26: PIN_ON(k) puts out the word of its topology entry, which TOPO_REF gives. -/
theorem referencePinWordsAreThoseOfTheTable : Obligations.ReferencePinWordsAreThoseOfTheTable := by
  unfold Obligations.ReferencePinWordsAreThoseOfTheTable
  intro s ht
  have hword := pinOn_pinWord s
  rw [ht] at hword
  exact ⟨hword 0, hword 1, hword 2, hword 3, hword 4, hword 5⟩

/-! ### Where an operation stops (93_implementation_defined.md U2 to U5) -/

/-- A TICK in which slots 0 to 4 answer is its slot 5 and the writes (R56, R70). -/
theorem tickState_eq {s : State} {c : Cursor} {n : Counted} (hl : s.led.toNat < 6)
    (hs : s.sub.toNat < 9) (hc : nextCursor s.led s.sub = .ok c) (hn : nextCount s.cnt = .ok n) :
    tickState s = animateIf n.fire s.config.frame s.bv s.ai >>= fun a =>
      .ok (((((s.withPins (if onCond (maskAt s.config.mask s.bv[s.led.toNat]) s.sub
        then pinsOn s.config.topo[s.led.toNat] else pinsOff)).withCursor c.led c.sub).withCount
          n.cnt).withAnimation a).withWires Wires.idle) := by
  simp only [tickState, lookupMask_ok _ _ hl, selectBit_ok _ (Nat.le_of_lt_succ hs),
    choosePins_ok _ _ hl, hc, hn, ok_bind]

theorem tick_refuses_led {s : State} (h : 6 ≤ s.led.toNat) :
    exec .tick s = .refused .ledOutOfRange := by
  rw [exec_tick, tickState, lookupMask_error _ _ (by omega), error_bind, toOutcome_error]

theorem tick_refuses_sub {s : State} (hl : s.led.toNat < 6) (h : 9 ≤ s.sub.toNat) :
    exec .tick s = .refused .subOutOfRange := by
  rw [exec_tick, tickState, lookupMask_ok _ _ hl, ok_bind, selectBit_error _ (by omega), error_bind,
    toOutcome_error]

theorem tick_refuses_cnt {s : State} (hl : s.led.toNat < 6) (hs : s.sub.toNat < 9)
    (h : 750 ≤ s.cnt.toNat) : exec .tick s = .refused .cntOutOfRange := by
  obtain ⟨c, hc⟩ := nextCursor_answers hl hs
  simp only [exec_tick, tickState, lookupMask_ok _ _ hl, selectBit_ok _ (Nat.le_of_lt_succ hs),
    choosePins_ok _ _ hl, hc, nextCount_error h, ok_bind, error_bind, toOutcome_error]

/-- A TICK that fires is refused for an animation cursor out of range. -/
theorem tick_refuses_ai {s : State} (hl : s.led.toNat < 6) (hs : s.sub.toNat < 9)
    (hc : s.cnt.toNat = 749) (h : 54 ≤ s.ai.toNat) : exec .tick s = .refused .aiOutOfRange := by
  obtain ⟨c, hcursor⟩ := nextCursor_answers hl hs
  rw [exec_tick, tickState_eq hl hs hcursor (nextCount_fire hc), animateIf_true,
    nextAnimation_error _ (by omega), error_bind, toOutcome_error]

/-- A TICK that does not fire answers whatever the animation cursor is. -/
theorem tick_answers_without_fire {s : State} (hl : s.led.toNat < 6) (hs : s.sub.toNat < 9)
    (hc : s.cnt.toNat < 749) : ∃ t, exec .tick s = .next t := by
  obtain ⟨c, hcursor⟩ := nextCursor_answers hl hs
  exact ⟨_, by rw [exec_tick, tickState_eq hl hs hcursor (nextCount_next hc), animateIf_false, ok_bind,
    toOutcome_ok]⟩

/-- Settles O27: each of the four reads `led` before it can answer. -/
theorem ledOutOfRangeIsRefused : Obligations.LedOutOfRangeIsRefused := by
  unfold Obligations.LedOutOfRangeIsRefused
  intro s h
  refine ⟨?_, ?_, tick_refuses_led h, fun hon => ?_⟩
  · rw [exec_lookup, lookupMask_error _ _ (by omega), error_bind, toOutcome_error]
  · rw [exec_advance, nextCursor_error_led h, error_bind, toOutcome_error]
  · rw [exec_pincmd, hon, choosePins_error _ (by omega), error_bind, toOutcome_error]

/-- Settles O28: BITSEL stops at once; ADVANCE and TICK stop at `sub` once `led` is read. -/
theorem subOutOfRangeIsRefused : Obligations.SubOutOfRangeIsRefused := by
  unfold Obligations.SubOutOfRangeIsRefused
  intro s h
  refine ⟨?_, fun hl => ⟨?_, tick_refuses_sub hl h⟩⟩
  · rw [exec_bitsel, selectBit_error _ (by omega), error_bind, toOutcome_error]
  · rw [exec_advance, nextCursor_error_sub hl h, error_bind, toOutcome_error]

/-- Settles O29: COUNT stops at once, a TICK at its COUNT. -/
theorem cntOutOfRangeIsRefused : Obligations.CntOutOfRangeIsRefused := by
  unfold Obligations.CntOutOfRangeIsRefused
  intro s h
  refine ⟨?_, fun hl hs => tick_refuses_cnt hl hs h⟩
  rw [exec_count, nextCount_error h, error_bind, toOutcome_error]

/-- A TICK refused for the animation cursor fires, and the cursor is out of range: in every other case
it answers or stops for another register. -/
theorem tick_refused_ai {s : State} (h : exec .tick s = .refused .aiOutOfRange) :
    54 ≤ s.ai.toNat ∧ s.cnt.toNat = 749 := by
  have hne : ∀ t, exec .tick s ≠ .next t := fun t ht => by
    rw [h] at ht
    cases ht
  by_cases hl : s.led.toNat < 6
  case neg =>
    rw [tick_refuses_led (by omega)] at h
    cases h
  by_cases hs : s.sub.toNat < 9
  case neg =>
    rw [tick_refuses_sub hl (by omega)] at h
    cases h
  by_cases hc : s.cnt.toNat < 750
  case neg =>
    rw [tick_refuses_cnt hl hs (by omega)] at h
    cases h
  constructor
  · by_contra ha
    obtain ⟨t, ht⟩ := tick_answers hl hs hc (by omega)
    exact hne t ht
  · by_contra hfire
    obtain ⟨t, ht⟩ := tick_answers_without_fire hl hs (by omega)
    exact hne t ht

/-- Settles O30: ANIMATE and the TICK that fires stop; no other operation runs the animator. -/
theorem aiOutOfRangeIsRefused : Obligations.AiOutOfRangeIsRefused := by
  unfold Obligations.AiOutOfRangeIsRefused
  refine ⟨fun s h => ⟨?_, fun hl hs hc => tick_refuses_ai hl hs hc h, fun hl hs hc => ?_⟩,
    fun i s h => ?_⟩
  · rw [exec_animate, nextAnimation_error _ (by omega), error_bind, toOutcome_error]
  · obtain ⟨t, ht⟩ := tick_answers_without_fire hl hs hc
    obtain ⟨hbv, hai, -⟩ := tick_without_fire ht (by omega)
    exact ⟨t, ht, hai, hbv⟩
  · cases i with
    | reset | hold | pinOff | pinOn0 | pinOn1 | pinOn2 | pinOn3 | pinOn4 | pinOn5 => cases h
    | tick =>
      obtain ⟨ha, hc⟩ := tick_refused_ai h
      exact ⟨ha, .inr ⟨rfl, hc⟩⟩
    | animate =>
      refine ⟨?_, .inl rfl⟩
      by_contra ha
      rw [exec_animate, nextAnimation_ok _ (by omega)] at h
      cases h
    | lookup =>
      by_cases hl : s.led.toNat < 6 <;>
        simp [exec_lookup, lookupMask_ok, lookupMask_error, hl] at h
    | bitsel =>
      by_cases hs : s.sub.toNat ≤ 8 <;> simp [exec_bitsel, selectBit_ok, selectBit_error, hs] at h
    | pincmd =>
      cases hon : s.wires.isOn <;> by_cases hl : s.led.toNat < 6 <;>
        simp [exec_pincmd, choosePins_on, choosePins_error, hl, hon] at h
    | advance =>
      by_cases hl : s.led.toNat < 6
      · by_cases hs : s.sub.toNat < 9
        · simp [exec_advance, nextCursor_ok hl hs] at h
        · simp [exec_advance, nextCursor_error_sub hl (not_lt.mp hs)] at h
      · simp [exec_advance, nextCursor_error_led (not_lt.mp hl)] at h
    | count =>
      by_cases hc : s.cnt.toNat < 750
      · simp [exec_count, nextCount_ok hc] at h
      · simp [exec_count, nextCount_error (not_lt.mp hc)] at h

/-! ### The reference tables (20_memory.md R31, R33) -/

/-- Settles O55: the nine reference masks, bit by bit. -/
theorem referenceMaskFillsFromTheTop : Obligations.ReferenceMaskFillsFromTheTop := by
  unfold Obligations.ReferenceMaskFillsFromTheTop
  exact ⟨by decide, by decide⟩

/-- Settles O56: the 54 entries of the two reference frame tables. -/
theorem referenceFrameIsTheTriangularRamp : Obligations.ReferenceFrameIsTheTriangularRamp := by
  unfold Obligations.ReferenceFrameIsTheTriangularRamp
  exact ⟨by decide, by decide⟩

end Sys2Proof.Machine

namespace Sys2Proof.Machine

/-! ### The pins a TICK drives (40_tick_and_scan.md R71, R72, 41_pin_sequencer.md R80) -/

/-- The mask of LED `k`'s brightness: what LOOKUP reads when the cursor is on `k` (R71). -/
def levelMask (s : State) (k : Fin 6) : Mask := maskAt s.config.mask s.bv[k]

/-- The pins of a TICK with the cursor on LED `k`: PIN_ON(k) where the mask of its level has the bit of
`sub`, else PIN_OFF; the blank tick's bit is one that no mask has. -/
theorem tick_pins {s t : State} {k : Fin 6} (h : exec .tick s = .next t) (hk : s.led.toNat = k.val) :
    (⟨t.pinDir, t.pinOut⟩ : PinPair) =
      if (levelMask s k).getLsbD s.sub.toNat then pinsOn s.config.topo[k] else pinsOff := by
  obtain ⟨m, b, p, c, n, a, hm, hb, hp, -, -, -, rfl⟩ := tickState_cases (execTick_eq_next.mp h)
  have hl : s.led.toNat < 6 := hk ▸ k.isLt
  have hs : s.sub.toNat ≤ 8 := by
    by_contra hs
    rw [selectBit_error m hs] at hb
    cases hb
  rw [lookupMask_ok _ _ hl] at hm
  cases hm
  rw [selectBit_ok _ hs, onCond_eq_getLsbD] at hb
  cases hb
  rw [choosePins_ok _ _ hl] at hp
  cases hp
  simp only [hk]
  rfl

/-- A TICK answers only with the cursor on an LED. -/
theorem tick_led {s t : State} (h : exec .tick s = .next t) : ∃ k : Fin 6, s.led.toNat = k.val := by
  by_cases hl : s.led.toNat < 6
  · exact ⟨⟨_, hl⟩, rfl⟩
  · rw [tick_refuses_led (by omega)] at h
    cases h

/-- The pin word of a TICK with the cursor on LED `k`. -/
theorem tick_pinWord {s t : State} {k : Fin 6} (h : exec .tick s = .next t) (hk : s.led.toNat = k.val) :
    t.pinWord = if (levelMask s k).getLsbD s.sub.toNat then onWord s.config.topo[k] else offWord := by
  have hpins := tick_pins h hk
  have hw : t.pinWord =
      joinPins (PinPair.mk t.pinDir t.pinOut).dir (PinPair.mk t.pinDir t.pinOut).out := rfl
  rw [hw, hpins]
  split <;> rfl

/-- A TICK on the blank position leaves every LED dark (R72, D7). -/
theorem tick_blank {s t : State} (h : exec .tick s = .next t) (hs : s.sub.toNat = 8) :
    t.pinWord = offWord := by
  obtain ⟨k, hk⟩ := tick_led h
  rw [tick_pinWord h hk, hs, BitVec.getLsbD_of_ge _ _ (le_refl 8)]
  rfl

/-- A TICK that issues a PIN_ON issues that of the LED the cursor is on, with no blank tick (R80). -/
theorem tick_lights {s t : State} {k : Fin 6} (h : exec .tick s = .next t) (hk : s.led.toNat = k.val)
    (hw : t.pinWord ≠ offWord) : t.pinWord = onWord s.config.topo[k] ∧ s.sub.toNat ≠ 8 := by
  refine ⟨?_, fun hs => hw (tick_blank h hs)⟩
  rw [tick_pinWord h hk] at hw ⊢
  split at hw
  case isTrue hbit => exact if_pos hbit
  case isFalse => exact absurd rfl hw

/-- A TICK moves the cursor as ADVANCE does (R70, R90). -/
theorem tick_cursor {s t : State} (h : exec .tick s = .next t) :
    ∃ wrap, nextCursor s.led s.sub = .ok ⟨t.led, t.sub, wrap⟩ := by
  obtain ⟨m, b, p, c, n, a, -, -, -, hc, -, -, rfl⟩ := tickState_cases (execTick_eq_next.mp h)
  exact ⟨c.wrap, hc⟩

/-- Settles O14: the mask read is clamped, and PIN_ON drives the pins of the old `led`. -/
theorem tickDrivesThePinsOfTheOldCursor : Obligations.TickDrivesThePinsOfTheOldCursor := by
  unfold Obligations.TickDrivesThePinsOfTheOldCursor
  intro s hl hs hc ha
  obtain ⟨t, ht⟩ := tick_answers hl hs hc ha
  refine ⟨t, ht, ?_, tickState_frame (execTick_eq_next.mp ht)⟩
  have hpins := tick_pins (k := ⟨s.led.toNat, hl⟩) ht rfl
  have hmask : levelMask s ⟨s.led.toNat, hl⟩ = s.config.mask[min (s.bv[s.led.toNat]).toNat 8] :=
    maskAt_eq _ _
  rw [hmask] at hpins
  split
  case isTrue hon =>
    rw [if_pos hon.2] at hpins
    injection hpins with hdir hout
    exact ⟨hdir, hout⟩
  case isFalse hoff =>
    have hbit : ¬(s.config.mask[min (s.bv[s.led.toNat]).toNat 8]).getLsbD s.sub.toNat = true := fun hbit =>
      hoff ⟨by have := BitVec.lt_of_getLsbD hbit; omega, hbit⟩
    rw [if_neg hbit] at hpins
    injection hpins with hdir hout
    exact ⟨hdir, hout⟩

/-- Settles O15: a TICK advances the cursor, and the blank tick is dark. -/
theorem tickMovesTheScanCursor : Obligations.TickMovesTheScanCursor := by
  unfold Obligations.TickMovesTheScanCursor
  intro s hl hs hc ha
  obtain ⟨t, ht⟩ := tick_answers hl hs hc ha
  refine ⟨t, ht, ?_⟩
  obtain ⟨wrap, hcursor⟩ := tick_cursor ht
  split
  case isTrue h8 =>
    rw [nextCursor_wrap hl h8] at hcursor
    injection hcursor with hcursor
    injection hcursor with hled hsub
    exact ⟨hsub.symm, hled.symm, tick_blank ht h8⟩
  case isFalse h8 =>
    rw [nextCursor_next hl (by omega)] at hcursor
    injection hcursor with hcursor
    injection hcursor with hled hsub
    exact ⟨hsub.symm, hled.symm⟩

/-- Settles O41: the pins are a function of the brightness, the cursor, MASK and TOPO of the old state. -/
theorem pinsIgnoreTheAnimationOfTheirTick : Obligations.PinsIgnoreTheAnimationOfTheirTick := by
  unfold Obligations.PinsIgnoreTheAnimationOfTheirTick
  intro s s' t t' hbv hled hsub hmask htopo ht ht'
  obtain ⟨k, hk⟩ := tick_led ht
  have hpins := tick_pins ht hk
  have hpins' := tick_pins ht' (hled ▸ hk)
  rw [levelMask, hbv, hsub, hmask, htopo, ← levelMask, ← hpins] at hpins'
  injection hpins' with hdir hout
  exact ⟨hdir, hout⟩

/-- Settles O45: two LEDs in succession on the scan have the blank position between them (R148). -/
theorem litLedNeverChangesDirectly : Obligations.LitLedNeverChangesDirectly := by
  unfold Obligations.LitLedNeverChangesDirectly
  intro s t u hst htu ht hu
  obtain ⟨k, hk⟩ := tick_led hst
  obtain ⟨hword, hsub⟩ := tick_lights hst hk ht
  obtain ⟨wrap, hcursor⟩ := tick_cursor hst
  obtain ⟨-, -, ⟨h8, -⟩ | ⟨-, hled, -⟩⟩ := nextCursor_cases hcursor
  · exact absurd h8 hsub
  · have hk' : t.led.toNat = k.val := by rw [← hk]; exact congrArg BitVec.toNat hled
    rw [(tick_lights htu hk' hu).1, hword, exec_config hst]

/-! ### A TICK as a sequence (30_encoding.md R56) -/

/-- A slot and what comes after it: where the slot answers, the rest goes on with its result; where it
stops, the sequence stops for its reason. -/
theorem andThen_slot {α : Type} {x : Except Refusal α} {f : α → State}
    {g : State → Host.Outcome State Fault Refusal} {rest : α → Except Refusal State}
    (h : ∀ a, g (f a) = toOutcome (rest a)) :
    andThen (toOutcome (x >>= fun a => .ok (f a))) g = toOutcome (x >>= rest) := by
  cases x with
  | error r => rfl
  | ok a => exact h a

/-- Settles O31: slot by slot; each slot reads registers that no slot before it writes, so it computes
what TICK computes from the state before the tick. -/
theorem tickIsTheSlotSequence : Obligations.TickIsTheSlotSequence := by
  unfold Obligations.TickIsTheSlotSequence
  intro s
  refine andThen_slot fun mask => andThen_slot fun isOn => andThen_slot fun pins =>
    andThen_slot fun cursor => andThen_slot fun counted => ?_
  obtain ⟨cnt, fire⟩ := counted
  cases fire with
  | false => rfl
  | true => exact andThen_slot fun anim => rfl

/-- Settles O32: each of the two reads and writes registers of its own. -/
theorem advanceAndCountCommute : Obligations.AdvanceAndCountCommute := by
  unfold Obligations.AdvanceAndCountCommute
  intro s hl hs hc
  obtain ⟨c, hcursor⟩ := nextCursor_answers hl hs
  obtain ⟨n, hcount⟩ := nextCount_answers hc
  refine ⟨((s.withCursor c.led c.sub).withCount n.cnt).withWires
    { s.wires with wrap := c.wrap, fire := n.fire }, ?_, ?_⟩
  · rw [exec_advance, hcursor, ok_bind, toOutcome_ok, andThen_next, exec_count]
    simp only [State.withWires_cnt, State.withCursor_cnt, hcount]
    rfl
  · rw [exec_count, hcount, ok_bind, toOutcome_ok, andThen_next, exec_advance]
    simp only [State.withWires_led, State.withWires_sub, State.withCount_led, State.withCount_sub, hcursor]
    rfl

/-! ### What no operation reads (60_exceptions.md R131, 10_state.md R17) -/

/-- A change made after an outcome is a change of its state. -/
theorem andThen_toOutcome_map (x : Except Refusal State) (f : State → State) :
    (andThen (toOutcome x) fun t => .next (f t)) = toOutcome (f <$> x) := by
  cases x <;> rfl

/-- The fetch reads the tables and the delivered words only: a change of the state that keeps them
passes through it. -/
theorem fetch_map {f : State → State} {s : State} (hc : (f s).config.Ok ↔ s.config.Ok)
    (ht : (f s).config.topo = s.config.topo) (hs : (f s).stimulus = s.stimulus)
    (hf : ∀ ws, f (s.withStimulus ws) = (f s).withStimulus ws) :
    fetch (f s) = (fun p => (p.1, f p.2)) <$> fetch s := by
  by_cases hok : s.config.Ok
  case neg =>
    have hok' : ¬(f s).config.Ok := fun h => hok (hc.mp h)
    rw [fetch, fetch, if_neg hok, if_neg hok']
    rfl
  case pos =>
    have hok' := hc.mpr hok
    match hw : s.stimulus with
    | [] =>
      rw [fetch_nil hok hw, fetch_nil hok' (hs.trans hw)]
      rfl
    | w :: rest =>
      cases hd : decode s.config.topo w with
      | ok i =>
        rw [fetch_decoded hok hw hd, fetch_decoded hok' (hs.trans hw) (ht ▸ hd), ← hf]
        rfl
      | error e =>
        rw [fetch_rejected hok hw hd, fetch_rejected hok' (hs.trans hw) (ht ▸ hd)]
        rfl

/-- A change that passes through the fetch is one of the state the operation runs in. -/
theorem step_map {f : State → State} {s : State}
    {F G : Host.Outcome State Fault Refusal → Host.Outcome State Fault Refusal}
    (hfetch : fetch (f s) = (fun p => (p.1, f p.2)) <$> fetch s)
    (hexec : ∀ i u, F (exec i (f u)) = G (exec i u))
    (hrefused : ∀ r, F (.refused r) = G (.refused r)) : F (step (f s)) = G (step s) := by
  cases hs : fetch s with
  | error r =>
    rw [hs] at hfetch
    rw [step_of_fetch_error hs, step_of_fetch_error hfetch]
    exact hrefused r
  | ok p =>
    rw [hs] at hfetch
    rw [step_of_fetch hs, step_of_fetch hfetch]
    exact hexec p.1 p.2

/-- The state with other values of the selector and the tick rate (R131, R152). -/
def State.withSelAndRate (v : Int) (rate : Nat) (s : State) : State :=
  { s with config := { s.config with sel := v, fTickHz := rate } }

/-- No operation reads the selector or the tick rate. -/
theorem exec_withSelAndRate (v : Int) (rate : Nat) (i : Instr) (s : State) :
    exec i (s.withSelAndRate v rate) = andThen (exec i s) fun t => .next (t.withSelAndRate v rate) := by
  cases i with
  | reset | hold | pinOff | pinOn0 | pinOn1 | pinOn2 | pinOn3 | pinOn4 | pinOn5 => rfl
  | lookup | bitsel | pincmd | advance | count | animate =>
    exact Eq.symm (andThen_slot fun _ => rfl)
  | tick =>
    rw [exec_tick, exec_tick, andThen_toOutcome_map _ (State.withSelAndRate v rate)]
    simp only [tickState, map_bind]
    rfl

/-- Settles O39: neither the fetch nor an operation reads the two parameters. -/
theorem selectorAndTickRateAreIgnored : Obligations.SelectorAndTickRateAreIgnored := by
  unfold Obligations.SelectorAndTickRateAreIgnored
  refine fun s v rate => ⟨fun i => exec_withSelAndRate v rate i s, ?_⟩
  exact step_map (f := State.withSelAndRate v rate) (F := id)
    (G := fun o => andThen o fun t => .next (t.withSelAndRate v rate))
    (fetch_map Iff.rfl rfl rfl fun _ => rfl) (exec_withSelAndRate v rate) fun _ => rfl

/-- An operation that writes the pin registers overwrites whatever they held. -/
theorem exec_withPins_of_writer {i : Instr} (hi : i.format = .pc ∨ i ∈ [Instr.pincmd, .tick, .reset])
    (s : State) (p : PinPair) : exec i (s.withPins p) = exec i s := by
  cases i with
  | reset | tick | pincmd | pinOff | pinOn0 | pinOn1 | pinOn2 | pinOn3 | pinOn4 | pinOn5 => rfl
  | hold | lookup | bitsel | advance | count | animate => simp [Instr.format] at hi

/-- An operation that does not write the pin registers does the same whatever they hold, and keeps them. -/
theorem exec_withPins_of_not_writer {i : Instr} (hpc : i.format ≠ .pc)
    (hi : i ∉ [Instr.pincmd, .tick, .reset]) (s : State) (p : PinPair) :
    exec i (s.withPins p) = andThen (exec i s) fun t => .next (t.withPins p) := by
  cases i with
  | hold => rfl
  | lookup | bitsel | advance | count | animate =>
    exact Eq.symm (andThen_slot fun _ => rfl)
  | reset | tick | pincmd => simp at hi
  | pinOff | pinOn0 | pinOn1 | pinOn2 | pinOn3 | pinOn4 | pinOn5 => exact absurd rfl hpc

/-- With the pin registers written over afterwards, no operation shows what they held before. -/
theorem exec_withPins_forgotten (p q : PinPair) (i : Instr) (s : State) :
    (andThen (exec i (s.withPins p)) fun t => .next (t.withPins q)) =
      andThen (exec i s) fun t => .next (t.withPins q) := by
  by_cases hi : i.format = .pc ∨ i ∈ [Instr.pincmd, .tick, .reset]
  · rw [exec_withPins_of_writer hi]
  · obtain ⟨hpc, hi⟩ := not_or.mp hi
    rw [exec_withPins_of_not_writer hpc hi]
    cases exec i s <;> rfl

/-- Settles O40: an operation writes the pin registers or keeps them, and the fetch does not read them. -/
theorem pinRegistersAreNeverReadBack : Obligations.PinRegistersAreNeverReadBack := by
  unfold Obligations.PinRegistersAreNeverReadBack
  refine fun s dir out => ⟨fun i hi => exec_withPins_of_writer hi s ⟨dir, out⟩,
    fun i hpc hi => exec_withPins_of_not_writer hpc hi s ⟨dir, out⟩, ?_⟩
  have hfetch : fetch (s.withPins ⟨dir, out⟩) = (fun q => (q.1, q.2.withPins ⟨dir, out⟩)) <$> fetch s :=
    fetch_map (f := fun u => u.withPins ⟨dir, out⟩) Iff.rfl rfl rfl fun _ => rfl
  exact step_map (F := fun o => andThen o fun t => .next (t.withPins pinsOff))
    (G := fun o => andThen o fun t => .next (t.withPins pinsOff)) (f := fun u => u.withPins ⟨dir, out⟩)
    hfetch (exec_withPins_forgotten ⟨dir, out⟩ pinsOff) fun _ => rfl

/-! ### What the pins light (41_pin_sequencer.md R88, R89) -/

/-- PIN_ON of an LED lights it (R88). -/
theorem lit_onDir_onOut {t : Topology} {j : Fin 6} (h : t[j].anode ≠ t[j].cathode) :
    lit t (onDir t[j]) (onOut t[j]) j = true := by
  unfold lit
  generalize t[j] = e at h ⊢
  obtain ⟨a, c⟩ := e
  revert h
  cases a <;> cases c <;> decide

/-- PIN_OFF's level register lights nothing (R88). -/
theorem lit_no_level (t : Topology) (dir : PinReg) (j : Fin 6) : lit t dir 0b000#3 j = false := by
  simp [lit]

/-- With no pin an output nothing is lit (R88). -/
theorem lit_no_output (t : Topology) (out : PinReg) (j : Fin 6) : lit t 0b000#3 out j = false := by
  simp [lit]

/-- An LED lit under a legal pin word is the one whose PIN_ON word it is: the level register has one pin
high, the anode, and the direction register one other output, the cathode (R52, R88). -/
theorem joinPins_eq_onWord_of_lit {t : Topology} {dir out : PinReg} {j : Fin 6}
    (h : joinPins dir out ∈ legalPinWords) (hlit : lit t dir out j = true) :
    joinPins dir out = onWord t[j] := by
  unfold lit at hlit
  generalize t[j] = e at hlit ⊢
  obtain ⟨a, c⟩ := e
  revert dir out
  cases a <;> cases c <;> decide

/-- Settles O42: PIN_ON(k) lights LED k; an LED it lights has LED k's pin word, so it is LED k. -/
theorem pinCommandLightsItsLedAlone : Obligations.PinCommandLightsItsLedAlone := by
  unfold Obligations.PinCommandLightsItsLedAlone
  refine fun s ht => ⟨fun k => ⟨_, exec_pinOn k s, fun j => ⟨fun hj => ?_, ?_⟩⟩, _, rfl, fun j => ?_⟩
  · have hlegal : joinPins (onDir s.config.topo[k]) (onOut s.config.topo[k]) ∈ legalPinWords :=
      onWord_mem_legal (ht.1 k)
    exact (onWord_topology_injective ht (joinPins_eq_onWord_of_lit hlegal hj)).symm
  · rintro rfl
    exact lit_onDir_onOut (ht.1 j)
  · exact lit_no_level _ _ j

/-- The seven legal pin words, pin by pin: at most one level bit, on an output, and 0 or 2 outputs (R89). -/
theorem legal_pin_counts {dir out : PinReg} (h : joinPins dir out ∈ legalPinWords) :
    pinCount out ≤ 1 ∧ out &&& ~~~dir = 0b000#3 ∧ (pinCount dir = 0 ∨ pinCount dir = 2) := by
  revert dir out
  decide

/-- Settles O43: a legal pin word is at most one LED's PIN_ON word. -/
theorem legalPinWordLightsAtMostOneLed : Obligations.LegalPinWordLightsAtMostOneLed := by
  unfold Obligations.LegalPinWordLightsAtMostOneLed
  refine fun s ht hlegal => ⟨fun j k hj hk => ?_, legal_pin_counts hlegal⟩
  exact onWord_topology_injective ht
    ((joinPins_eq_onWord_of_lit hlegal hj).symm.trans (joinPins_eq_onWord_of_lit hlegal hk))

/-- Settles O44: each intermediate word lacks all levels or all outputs. -/
theorem serialPinWritesLightNothing : Obligations.SerialPinWritesLightNothing := by
  unfold Obligations.SerialPinWritesLightNothing
  intro t k j p hp
  have hdark : p.dir = 0b000#3 ∨ p.out = 0b000#3 := by
    simp only [List.mem_cons, List.not_mem_nil, or_false] at hp
    obtain rfl | rfl | rfl | rfl := hp
    · exact .inr rfl
    · exact .inl rfl
    · exact .inl rfl
    · exact .inr rfl
  obtain ⟨dir, out⟩ := p
  obtain rfl | rfl := hdark
  · refine ⟨lit_no_output t out j, ?_⟩
    simp [drivenHigh, pinCount]
  · refine ⟨lit_no_level t dir j, ?_⟩
    simp [drivenHigh, pinCount]

end Sys2Proof.Machine

namespace Sys2Proof.Machine

/-! ### The 53-bit vector (30_encoding.md R55) -/

/-- The fields of the 53-bit vector lie side by side from bit 0 to bit 52, so together they are the
vector. -/
theorem withPacked_packed (s : State) (v : BitVec 53) : (s.withPacked v).packed = v := by
  have hadj : ∀ {hi lo len₂ : Nat} (len₁ : Nat), hi = lo + len₁ →
      v.extractLsb' hi len₂ ++ v.extractLsb' lo len₁ = v.extractLsb' lo (len₂ + len₁) :=
    fun _ h => BitVec.extractLsb'_append_extractLsb'_eq_extractLsb' h
  have hfields : (s.withPacked v).packed =
      v.extractLsb' 49 4 ++ v.extractLsb' 45 4 ++ v.extractLsb' 41 4 ++ v.extractLsb' 37 4 ++
        v.extractLsb' 33 4 ++ v.extractLsb' 29 4 ++ v.extractLsb' 26 3 ++ v.extractLsb' 22 4 ++
        v.extractLsb' 12 10 ++ v.extractLsb' 6 6 ++ v.extractLsb' 3 3 ++ v.extractLsb' 0 3 := rfl
  rw [hfields, hadj (hi := 49) 4 rfl, hadj (hi := 45) 4 rfl, hadj (hi := 41) 4 rfl, hadj (hi := 37) 4 rfl,
    hadj (hi := 33) 4 rfl, hadj (hi := 29) 3 rfl, hadj (hi := 26) 4 rfl, hadj (hi := 22) 10 rfl,
    hadj (hi := 12) 6 rfl, hadj (hi := 6) 3 rfl, hadj (hi := 3) 3 rfl]
  exact BitVec.extractLsb'_eq_self

/-- A field of the packed vector, with the widths of the twelve registers written out: the lemmas on
`++` do not see them in the sum 53. -/
theorem packed_extractLsb' (s : State) (start len : Nat) :
    s.packed.extractLsb' start len =
      BitVec.extractLsb' (n := 4 + 4 + 4 + 4 + 4 + 4 + 3 + 4 + 10 + 6 + 3 + 3) start len
        (s.bv[5] ++ s.bv[4] ++ s.bv[3] ++ s.bv[2] ++ s.bv[1] ++ s.bv[0] ++ s.led ++ s.sub ++ s.cnt ++
          s.ai ++ s.pinDir ++ s.pinOut) := rfl

/-- The brightness registers of the vector are those that were packed. -/
theorem packed_bv (s : State) :
    #v[s.packed.extractLsb' 29 4, s.packed.extractLsb' 33 4, s.packed.extractLsb' 37 4,
      s.packed.extractLsb' 41 4, s.packed.extractLsb' 45 4, s.packed.extractLsb' 49 4] = s.bv := by
  ext k hk : 1
  have hk' : k = 0 ∨ k = 1 ∨ k = 2 ∨ k = 3 ∨ k = 4 ∨ k = 5 := by omega
  obtain rfl | rfl | rfl | rfl | rfl | rfl := hk' <;>
    simp [-Nat.reduceAdd, packed_extractLsb', BitVec.extractLsb'_append_eq_of_le,
      BitVec.extractLsb'_append_eq_right]

/-- Settles O7: each field of the vector is the register that was packed there, and the fields are the
whole vector. -/
theorem packedStateRoundTrip : Obligations.PackedStateRoundTrip := by
  unfold Obligations.PackedStateRoundTrip
  refine ⟨fun s => State.eq_of_fields (packed_bv s) ?_ ?_ ?_ ?_ ?_ ?_ rfl rfl rfl,
    withPacked_packed⟩
  all_goals
    simp [-Nat.reduceAdd, State.withPacked, packed_extractLsb', BitVec.extractLsb'_append_eq_of_le,
      BitVec.extractLsb'_append_eq_right]

end Sys2Proof.Machine

namespace Sys2Proof.Machine

/-! ### Runs of TICKs -/

/-- Putting an outcome through two continuations is putting it through their composition. -/
theorem andThen_assoc (o : Host.Outcome State Fault Refusal)
    (f g : State → Host.Outcome State Fault Refusal) :
    andThen (andThen o f) g = andThen o fun s => andThen (f s) g := by
  cases o <;> rfl

/-- A run of `m + n` TICKs is a run of `m` and then one of `n`. -/
theorem ticks_add (m n : Nat) (s : State) : ticks (m + n) s = andThen (ticks m s) (ticks n) := by
  induction m generalizing s with
  | zero => rw [Nat.zero_add, ticks_zero, andThen_next]
  | succ m ih =>
    rw [Nat.succ_add, ticks_succ, ticks_succ, andThen_assoc]
    exact congrArg (andThen _) (funext ih)

/-- A run of one TICK more ends with a TICK. -/
theorem ticks_succ_last {n : Nat} {s u : State} (h : ticks (n + 1) s = .next u) :
    ∃ t, ticks n s = .next t ∧ exec .tick t = .next u := by
  rw [ticks_add] at h
  obtain ⟨t, ht, hu⟩ := andThen_eq_next.mp h
  obtain ⟨u', hu', hlast⟩ := andThen_eq_next.mp hu
  cases hlast
  exact ⟨t, ht, hu'⟩

/-- What holds at the start of a run and is carried on by every TICK holds at its end. -/
theorem ticks_induction {P : Nat → State → Prop} {s : State} (h0 : P 0 s)
    (hstep : ∀ n t u, P n t → exec .tick t = .next u → P (n + 1) u) {n : Nat} {t : State}
    (h : ticks n s = .next t) : P n t := by
  induction n generalizing t with
  | zero =>
    cases h
    exact h0
  | succ n ih =>
    obtain ⟨u, hu, ht⟩ := ticks_succ_last h
    exact hstep n u t (ih hu) ht

/-! ### One TICK as numbers -/

/-- A TICK moves the cursor one position on, modulo 54 (R91). -/
theorem tick_position {s t : State} (h : exec .tick s = .next t) :
    position t = (position s + 1) % 54 ∧ t.led.toNat ≤ 5 ∧ t.sub.toNat ≤ 8 := by
  obtain ⟨wrap, hcursor⟩ := tick_cursor h
  refine ⟨?_, nextCursor_inRange hcursor⟩
  unfold position
  obtain ⟨hl, hs, ⟨h8, hled, hsub, -⟩ | ⟨h8, hled, hsub, -⟩⟩ := nextCursor_cases hcursor
  · simp only at hled hsub
    omega
  · simp only at hled hsub
    rw [hled]
    omega

/-- A TICK counts modulo 750 (R101). -/
theorem tick_cnt {s t : State} (h : exec .tick s = .next t) :
    t.cnt.toNat = (s.cnt.toNat + 1) % 750 := by
  obtain ⟨m, b, p, c, n, a, -, -, -, -, hcount, -, rfl⟩ := tickState_cases (execTick_eq_next.mp h)
  exact (nextCount_cases hcount).2.1

/-- A TICK that fires moves the animation cursor, modulo 54 (R110). -/
theorem tick_ai_of_fire {s t : State} (h : exec .tick s = .next t) (hc : s.cnt.toNat = 749) :
    t.ai.toNat = (s.ai.toNat + 1) % 54 :=
  (nextAnimation_ai (tick_with_fire h hc).2).2

/-- A TICK keeps the indices in range. -/
theorem tick_inRange {s t : State} (hs : InRange s) (h : exec .tick s = .next t) : InRange t := by
  obtain ⟨-, -, -, ha⟩ := hs
  obtain ⟨-, hl, hsub⟩ := tick_position h
  have hc := tick_cnt h
  refine ⟨hl, hsub, by omega, ?_⟩
  by_cases hfire : s.cnt.toNat = 749
  · have := tick_ai_of_fire h hfire
    omega
  · rw [(tick_without_fire h hfire).2.1]
    exact ha

/-! ### The laws over any number of TICKs -/

/-- From a state in range every run of TICKs answers, in range. -/
theorem ticks_answer (n : Nat) {s : State} (h : InRange s) : ∃ t, ticks n s = .next t ∧ InRange t := by
  induction n generalizing s with
  | zero => exact ⟨s, rfl, h⟩
  | succ n ih =>
    obtain ⟨u, hu⟩ := tick_answers_inRange h
    rw [ticks_succ, hu]
    exact ih (tick_inRange h hu)

/-- A run of TICKs keeps the indices in range. -/
theorem ticks_inRange {n : Nat} {s t : State} (hs : InRange s) (h : ticks n s = .next t) : InRange t :=
  ticks_induction (P := fun _ t => InRange t) hs (fun _ _ _ ht hu => tick_inRange ht hu) h

/-- No TICK changes the configuration. -/
theorem ticks_config {n : Nat} {s t : State} (h : ticks n s = .next t) : t.config = s.config :=
  ticks_induction (P := fun _ t => t.config = s.config) rfl
    (fun _ _ _ ht hu => (exec_config hu).trans ht) h

/-- The cursor's two registers from its position, where `sub` is in range (R14). -/
theorem cursor_of_position {s : State} (h : s.sub.toNat ≤ 8) :
    s.led.toNat = position s / 9 ∧ s.sub.toNat = position s % 9 := by
  unfold position
  omega

/-- The position after a run of TICKs (R91). -/
theorem ticks_position {n : Nat} {s t : State} (hs : InRange s) (h : ticks n s = .next t) :
    position t = (position s + n) % 54 := by
  refine ticks_induction (P := fun n t => position t = (position s + n) % 54) ?_ ?_ h
  · obtain ⟨hl, hsub, -⟩ := hs
    unfold position
    omega
  · intro n t u ht hu
    have := (tick_position hu).1
    omega

/-- The counter and the animation cursor after a run of TICKs (R101, R111): the counts overflow into the
cursor. -/
theorem ticks_cnt_ai {n : Nat} {s t : State} (hs : InRange s) (h : ticks n s = .next t) :
    t.cnt.toNat = (s.cnt.toNat + n) % 750 ∧
      t.ai.toNat = (s.ai.toNat + (s.cnt.toNat + n) / 750) % 54 := by
  refine ticks_induction (P := fun n t => t.cnt.toNat = (s.cnt.toNat + n) % 750 ∧
    t.ai.toNat = (s.ai.toNat + (s.cnt.toNat + n) / 750) % 54) ?_ ?_ h
  · obtain ⟨-, -, hc, ha⟩ := hs
    omega
  · rintro n t u ⟨hcnt, hai⟩ hu
    have hc := tick_cnt hu
    by_cases hfire : t.cnt.toNat = 749
    · have := tick_ai_of_fire hu hfire
      omega
    · rw [(tick_without_fire hu hfire).2.1]
      omega

/-- Settles O46: the position law, and what a position says of the two registers. -/
theorem cursorPositionAfterTicks : Obligations.CursorPositionAfterTicks := by
  unfold Obligations.CursorPositionAfterTicks
  intro n s hs
  obtain ⟨t, ht, hrange⟩ := ticks_answer n hs
  exact ⟨t, ht, hrange, ticks_position hs ht, cursor_of_position hrange.2.1⟩

/-- Settles O47: the counter's half of the count law. -/
theorem tickCounterAfterTicks : Obligations.TickCounterAfterTicks := by
  unfold Obligations.TickCounterAfterTicks
  intro n s hs
  obtain ⟨t, ht, -⟩ := ticks_answer n hs
  exact ⟨t, ht, (ticks_cnt_ai hs ht).1⟩

/-- Settles O48: the animation cursor's half of the count law. -/
theorem animationCursorAfterTicks : Obligations.AnimationCursorAfterTicks := by
  unfold Obligations.AnimationCursorAfterTicks
  intro n s hs
  obtain ⟨t, ht, -⟩ := ticks_answer n hs
  exact ⟨t, ht, (ticks_cnt_ai hs ht).2⟩

/-- `F(x)` depends on `x` modulo 54 only (R112). -/
theorem frameAt_congr (f : FrameTable) {x y : Nat} (h : x % 54 = y % 54) : frameAt f x = frameAt f y := by
  unfold frameAt
  simp only [h]

/-- The brightness registers of the animator step that left the animation cursor at `ai`: it sampled
`a = ai − 1` (R112). -/
def framePairs (f : FrameTable) (ai : Nat) : Vector Level 6 :=
  #v[frameAt f (ai + 1), frameAt f (ai + 1), frameAt f ai, frameAt f ai, frameAt f (ai + 53),
    frameAt f (ai + 53)]

/-- The pairs of the step that sampled `a` (R110). -/
theorem framePairs_succ (f : FrameTable) (a : Nat) :
    framePairs f ((a + 1) % 54) =
      #v[frameAt f (a + 2), frameAt f (a + 2), frameAt f (a + 1), frameAt f (a + 1), frameAt f a,
        frameAt f a] := by
  have h0 : frameAt f ((a + 1) % 54 + 1) = frameAt f (a + 2) := frameAt_congr f (by omega)
  have h1 : frameAt f ((a + 1) % 54) = frameAt f (a + 1) := frameAt_congr f (by omega)
  have h2 : frameAt f ((a + 1) % 54 + 53) = frameAt f a := frameAt_congr f (by omega)
  rw [framePairs, h0, h1, h2]

/-- A TICK that fires leaves the pairs of its animator step (R112). -/
theorem tick_bv_of_fire {s t : State} (h : exec .tick s = .next t) (hc : s.cnt.toNat = 749) :
    t.bv = framePairs s.config.frame t.ai.toNat := by
  obtain ⟨-, hanim⟩ := tick_with_fire h hc
  obtain ⟨ha, hai⟩ := nextAnimation_ai hanim
  simp only at hai
  rw [nextAnimation_frameAt _ ha] at hanim
  injection hanim with hanim
  injection hanim with hbv
  rw [← hbv, hai, framePairs_succ]

/-- Once an animator step has run, the brightness registers are the pairs of the last one (R112). -/
theorem ticks_bv {n : Nat} {s t : State} (hs : InRange s) (h : ticks n s = .next t)
    (hn : 750 ≤ s.cnt.toNat + n) : t.bv = framePairs s.config.frame t.ai.toNat := by
  induction n generalizing t with
  | zero =>
    obtain ⟨-, -, hc, -⟩ := hs
    omega
  | succ n ih =>
    obtain ⟨u, hu, ht⟩ := ticks_succ_last h
    by_cases hfire : u.cnt.toNat = 749
    · rw [tick_bv_of_fire ht hfire, ticks_config hu]
    · obtain ⟨hbv, hai, -⟩ := tick_without_fire ht hfire
      have hcnt := (ticks_cnt_ai hs hu).1
      rw [hbv, hai, ih hu (by omega)]

/-- Settles O49: the registers are kept below the threshold, and follow the animation cursor from it on. -/
theorem brightnessFollowsTheAnimationCursor : Obligations.BrightnessFollowsTheAnimationCursor := by
  unfold Obligations.BrightnessFollowsTheAnimationCursor
  intro n s hs
  obtain ⟨t, ht, -⟩ := ticks_answer n hs
  refine ⟨t, ht, ?_⟩
  split
  case isTrue hlt => exact ticks_keep_bv_below_threshold hlt ht
  case isFalse hge => exact ticks_bv hs ht (by omega)

/-- Settles O54: the last TICK of the run starts on the blank position. -/
theorem everyNinthTickIsDark : Obligations.EveryNinthTickIsDark := by
  unfold Obligations.EveryNinthTickIsDark
  intro n s hs hpos
  obtain ⟨u, hu, -⟩ := ticks_answer (n + 1) hs
  obtain ⟨t, ht, hlast⟩ := ticks_succ_last hu
  have hsub := (cursor_of_position (ticks_inRange hs ht).2.1).2
  have := ticks_position hs ht
  exact ⟨u, hu, tick_blank hlast (by omega)⟩

end Sys2Proof.Machine

namespace Sys2Proof.Machine

/-! ### Counting the TICKs that light an LED (40_tick_and_scan.md R75) -/

/-- The pin word of a TICK is PIN_ON(k) exactly when the cursor is on LED `k` and the mask of its level
has the bit of `sub`. -/
theorem tick_pinWord_eq_onWord_iff {s t : State} (h : exec .tick s = .next t)
    (ht : TopologyOk s.config.topo) (k : Fin 6) :
    t.pinWord = onWord s.config.topo[k] ↔
      s.led.toNat = k.val ∧ (levelMask s k).getLsbD s.sub.toNat = true := by
  obtain ⟨j, hj⟩ := tick_led h
  rw [tick_pinWord h hj]
  constructor
  · intro hw
    split at hw
    case isTrue hbit =>
      obtain rfl : j = k := onWord_topology_injective ht hw
      exact ⟨hj, hbit⟩
    case isFalse => exact absurd hw.symm (onWord_ne_offWord _)
  · rintro ⟨hk, hbit⟩
    obtain rfl : j = k := Fin.ext (hj.symm.trans hk)
    exact if_pos hbit

/-- Counting the TICKs that show a word is counting the numbers of those TICKs. -/
theorem ticksShowing_eq_count {w : PinWord} (n : Nat) {s : State} (hs : InRange s) (p : Nat → Bool)
    (hp : ∀ i < n, ∀ t u, ticks i s = .next t → exec .tick t = .next u → (u.pinWord = w ↔ p i = true)) :
    ticksShowing w n s = Nat.count (fun i => p i = true) n := by
  induction n generalizing s p with
  | zero => rfl
  | succ n ih =>
    obtain ⟨t, ht⟩ := tick_answers_inRange hs
    have hfirst := hp 0 (by omega) s t rfl ht
    have hrest := ih (tick_inRange hs ht) (fun i => p (i + 1)) fun i hi t' u ht' hu =>
      hp (i + 1) (by omega) t' u (by rw [ticks_succ, ht]; exact ht') hu
    simp only [ticksShowing, ht, hrest, Nat.count_succ', hfirst, Nat.add_comm]

/-- Properties that agree below `n` are counted alike below `n`. -/
theorem count_congr_below {p q : Nat → Bool} {n : Nat} (h : ∀ i < n, p i = q i) :
    Nat.count (fun i => p i = true) n = Nat.count (fun i => q i = true) n :=
  List.countP_congr fun i hi => by simp only [h i (List.mem_range.mp hi)]

/-- A mask's set bits, counted over the sub-ticks 0 to 7. -/
theorem popcount_eq_count (m : Mask) : popcount m = Nat.count (fun b => m.getLsbD b = true) 8 := by
  rw [popcount, Nat.count, List.countP_eq_length_filter]
  simp

/-- The blank tick adds nothing to the count over a sub-frame: a mask has no bit 8. -/
theorem count_subframe (m : Mask) : Nat.count (fun b => m.getLsbD b = true) 9 = popcount m := by
  rw [Nat.count_succ, popcount_eq_count, BitVec.getLsbD_of_ge m 8 (le_refl 8)]
  rfl

/-- Does a mask light LED `k` at position `x` of the scan (R14)? -/
def scanShows (m : Mask) (k : Fin 6) (x : Nat) : Bool :=
  decide (x % 54 / 9 = k.val) && m.getLsbD (x % 54 % 9)

/-- Over one scan from its first position a mask lights its LED on as many ticks as it has bits: those of
the LED's own sub-frame. -/
theorem count_scanShows (m : Mask) (k : Fin 6) :
    Nat.count (fun x => scanShows m k x = true) 54 = popcount m := by
  have hlt := k.isLt
  have hsplit : 54 = 9 * k.val + (9 + (45 - 9 * k.val)) := by omega
  have hbefore : Nat.count (fun x => scanShows m k x = true) (9 * k.val) = 0 := by
    refine Nat.count_iff_forall_not.mpr fun x hx => ?_
    have : x % 54 / 9 ≠ k.val := by omega
    simp [scanShows, this]
  have hafter : Nat.count (fun i => scanShows m k (9 * k.val + (9 + i)) = true) (45 - 9 * k.val) = 0 := by
    refine Nat.count_iff_forall_not.mpr fun i hi => ?_
    have : (9 * k.val + (9 + i)) % 54 / 9 ≠ k.val := by omega
    simp [scanShows, this]
  have hown : Nat.count (fun i => scanShows m k (9 * k.val + i) = true) 9 = popcount m := by
    rw [← count_subframe]
    refine count_congr_below fun i hi => ?_
    have hled : (9 * k.val + i) % 54 / 9 = k.val := by omega
    have hsub : (9 * k.val + i) % 54 % 9 = i := by omega
    simp [scanShows, hled, hsub]
  rw [hsplit, Nat.count_add, Nat.count_add, hbefore, hafter, hown]
  omega

/-- A property with period `n` holds as often on `n` successive numbers from `a` on as on the first `n`. -/
theorem count_shift_of_periodic {p : Nat → Bool} {n : Nat} (hp : ∀ x, p (n + x) = p x) (a : Nat) :
    Nat.count (fun i => p (a + i) = true) n = Nat.count (fun i => p i = true) n := by
  have h1 := Nat.count_add (fun i => p i = true) a n
  have h2 := Nat.count_add (fun i => p i = true) n a
  simp only [hp] at h2
  rw [Nat.add_comm n a] at h2
  omega

/-- A run of TICKs and one more: where the last one issues PIN_ON(k), by the position it runs at. -/
theorem ticks_shows_iff {i : Nat} {s t u : State} {k : Fin 6} (hs : InRange s)
    (htopo : TopologyOk s.config.topo) (ht : ticks i s = .next t) (hu : exec .tick t = .next u) :
    u.pinWord = onWord s.config.topo[k] ↔ scanShows (levelMask t k) k (position s + i) = true := by
  have hconfig := ticks_config ht
  obtain ⟨hled, hsub⟩ := cursor_of_position (ticks_inRange hs ht).2.1
  rw [← hconfig, tick_pinWord_eq_onWord_iff hu (hconfig ▸ htopo), hled, hsub, ticks_position hs ht]
  simp [scanShows]

/-- The mask of a legal level, without the clamp (R71). -/
theorem levelMask_eq {s : State} {k : Fin 6} (h : (s.bv[k]).toNat ≤ 8) :
    levelMask s k = s.config.mask[(⟨(s.bv[k]).toNat, by omega⟩ : Fin 9)] := by
  have hmin : min (s.bv[k]).toNat 8 = (s.bv[k]).toNat := Nat.min_eq_left h
  rw [levelMask, maskAt_eq]
  exact getElem_congr_idx hmin

/-- The mask of an LED's level has as many bits as the level, clamped (U12). -/
theorem popcount_levelMask {s : State} (h : MaskOk s.config.mask) (k : Fin 6) :
    popcount (levelMask s k) = min (s.bv[k]).toNat 8 := by
  rw [levelMask, maskAt_eq]
  exact h ⟨min (s.bv[k]).toNat 8, by omega⟩

/-- Settles O50: with the level fixed, so is the mask; PIN_ON(k) is issued where the scan's position shows
it, and 54 successive positions are all the positions. -/
theorem dutyCycleIsTheBrightnessLevel : Obligations.DutyCycleIsTheBrightnessLevel := by
  unfold Obligations.DutyCycleIsTheBrightnessLevel
  intro s k hs hmask htopo hbv
  have hshows : ∀ i < 54, ∀ t u, ticks i s = .next t → exec .tick t = .next u →
      (u.pinWord = onWord s.config.topo[k] ↔ scanShows (levelMask s k) k (position s + i) = true) := by
    intro i hi t u ht hu
    have hlevel : levelMask t k = levelMask s k := by
      rw [levelMask, hbv i hi t ht, ticks_config ht, levelMask]
    rw [ticks_shows_iff hs htopo ht hu, hlevel]
  have hperiod : ∀ x, scanShows (levelMask s k) k (54 + x) = scanShows (levelMask s k) k x := fun x => by
    simp only [scanShows, Nat.add_mod_left]
  rw [ticksShowing_eq_count 54 hs _ hshows, count_shift_of_periodic hperiod, count_scanShows,
    popcount_levelMask hmask]

/-! ### A sub-frame in which the level changes (44_animator.md R113) -/

/-- Either reading of MASK is one the spec admits (R31, U12). -/
theorem maskOk_of_either_reading {m : MaskTable} (hm : m = maskRef ∨ m = maskAlt) : MaskOk m := by
  obtain rfl | rfl := hm
  · decide
  · decide

/-- Under either reading of MASK the masks of two neighbouring levels agree but for one bit (R31). -/
theorem mask_of_neighbours {m : MaskTable} (hm : m = maskRef ∨ m = maskAlt) (L L' : Fin 9)
    (h : L.val ≤ L'.val + 1) (h' : L'.val ≤ L.val + 1) :
    ∃ c : Fin 9, ∀ b : Fin 9, b ≠ c → (m[L]).getLsbD b.val = (m[L']).getLsbD b.val := by
  revert L L'
  obtain rfl | rfl := hm
  · decide
  · decide

/-- The first `j` bits of one mask and the rest of another one: where the masks agree but for one bit,
that is one of the two. -/
theorem count_mixed_masks {m m' : Mask} {c : Fin 9}
    (h : ∀ b : Fin 9, b ≠ c → m.getLsbD b.val = m'.getLsbD b.val) (j : Nat) :
    Nat.count (fun b => (if b < j then m else m').getLsbD b = true) 9 = popcount m ∨
      Nat.count (fun b => (if b < j then m else m').getLsbD b = true) 9 = popcount m' := by
  have hagree : ∀ b < 9, b ≠ c.val → m.getLsbD b = m'.getLsbD b := fun b hb hne =>
    h ⟨b, hb⟩ fun hbc => hne (congrArg Fin.val hbc)
  simp only [← count_subframe]
  by_cases hc : c.val < j
  · refine .inl (count_congr_below fun b hb => ?_)
    split
    case isTrue => rfl
    case isFalse hj => exact (hagree b hb (by omega)).symm
  · refine .inr (count_congr_below fun b hb => ?_)
    split
    case isTrue hj => exact hagree b hb (by omega)
    case isFalse => rfl

/-- Within 750 counts the animator runs at most once: the brightness registers before it are the old ones,
and after it the ones at the end of the run. -/
theorem ticks_bv_two_phases {i n : Nat} {s t u : State} (hs : InRange s) (hin : i ≤ n)
    (hn : s.cnt.toNat + n < 1500) (ht : ticks i s = .next t) (hu : ticks n s = .next u) :
    t.bv = if s.cnt.toNat + i < 750 then s.bv else u.bv := by
  split
  case isTrue hlt => exact ticks_keep_bv_below_threshold hlt ht
  case isFalse hge =>
    have hai : t.ai.toNat = u.ai.toNat := by
      rw [(ticks_cnt_ai hs ht).2, (ticks_cnt_ai hs hu).2]
      omega
    rw [ticks_bv hs ht (by omega), ticks_bv hs hu (by omega), hai]

/-- Settles O51: the nine TICKs are LED `k`'s sub-frame; they show the old mask's bits up to the animator
step and the new mask's after it, and that is one of the two masks. -/
theorem mixedSubFrameShowsOldOrNewLevel : Obligations.MixedSubFrameShowsOldOrNewLevel := by
  unfold Obligations.MixedSubFrameShowsOldOrNewLevel
  intro s t k hs hled hsub hm htopo ht hold hnew h h'
  have hcnt : s.cnt.toNat ≤ 749 := hs.2.2.1
  have hpos : position s = 9 * k.val := by
    rw [position, hled, hsub]
    exact Nat.mul_comm k.val 9
  have hshows : ∀ i < 9, ∀ v u, ticks i s = .next v → exec .tick v = .next u →
      (u.pinWord = onWord s.config.topo[k] ↔
        (if i < 750 - s.cnt.toNat then levelMask s k else levelMask t k).getLsbD i = true) := by
    intro i hi v u hv hu
    have hphase : s.cnt.toNat + i < 750 ↔ i < 750 - s.cnt.toNat := by omega
    have hlevel : levelMask v k = if i < 750 - s.cnt.toNat then levelMask s k else levelMask t k := by
      rw [levelMask, ticks_config hv, ticks_bv_two_phases hs (by omega) (by omega) hv ht,
        if_congr hphase rfl rfl]
      split
      case isTrue => rfl
      case isFalse => rw [levelMask, ticks_config ht]
    have hk : (9 * k.val + i) % 54 / 9 = k.val := by omega
    have hb : (9 * k.val + i) % 54 % 9 = i := by omega
    rw [ticks_shows_iff hs htopo hv hu, hlevel, hpos, scanShows, hk, hb]
    simp
  rw [ticksShowing_eq_count 9 hs _ hshows]
  have hmask : MaskOk s.config.mask := maskOk_of_either_reading hm
  have hbits : popcount (levelMask s k) = (s.bv[k]).toNat := by
    rw [popcount_levelMask hmask, Nat.min_eq_left hold]
  have hbits' : popcount (levelMask t k) = (t.bv[k]).toNat := by
    rw [popcount_levelMask (ticks_config ht ▸ hmask), Nat.min_eq_left hnew]
  obtain ⟨c, hc⟩ := mask_of_neighbours hm ⟨(s.bv[k]).toNat, by omega⟩ ⟨(t.bv[k]).toNat, by omega⟩ h h'
  have hmasks : ∀ b : Fin 9, b ≠ c → (levelMask s k).getLsbD b.val = (levelMask t k).getLsbD b.val := by
    rw [levelMask_eq hold, levelMask_eq hnew, ticks_config ht]
    exact hc
  rw [← hbits, ← hbits']
  exact count_mixed_masks hmasks _

end Sys2Proof.Machine

namespace Sys2Proof.Machine

/-! ### The run from reset under the reference tables (10_state.md R22, 70_reset_and_hazards.md R142) -/

theorem reset_inRange : InRange State.reset := by decide

/-- Every run of TICKs leaves idle wires where it starts with them, and takes no delivered word. -/
theorem ticks_frame {n : Nat} {s t : State} (hs : s.wires = Wires.idle) (h : ticks n s = .next t) :
    t.wires = Wires.idle ∧ t.stimulus = s.stimulus := by
  refine ticks_induction (P := fun _ t => t.wires = Wires.idle ∧ t.stimulus = s.stimulus) ⟨hs, rfl⟩ ?_ h
  rintro n t u ⟨-, hstim⟩ hu
  obtain ⟨hwires, -, hstim'⟩ := tickState_frame (execTick_eq_next.mp hu)
  exact ⟨hwires, hstim'.trans hstim⟩

/-- The pin registers behind PIN_OFF's pin word (R51). -/
theorem pins_of_pinWord_off {s : State} (h : s.pinWord = offWord) :
    s.pinDir = 0b000#3 ∧ s.pinOut = 0b000#3 :=
  joinPins_injective (d' := 0b000#3) (o' := 0b000#3) h

/-- After 40 500 TICKs, a multiple of both the scan's 54 and the animation's 750 · 54, the block is in the
reset state: the cursors and the counter are at 0, the last tick was a blank one, and the pairs of the
animation cursor 0 are dark in the reference frame table. -/
theorem ticks_period : ticks 40500 State.reset = .next State.reset := by
  obtain ⟨t, ht, hrange⟩ := ticks_answer 40500 reset_inRange
  have hpos : position t = 0 := ticks_position reset_inRange ht
  obtain ⟨hled, hsub⟩ := cursor_of_position hrange.2.1
  have hcnt : t.cnt.toNat = 0 := (ticks_cnt_ai reset_inRange ht).1
  have hai : t.ai.toNat = 0 := (ticks_cnt_ai reset_inRange ht).2
  have hbv : t.bv = State.reset.bv := by
    rw [ticks_bv reset_inRange ht (Nat.le_add_left 750 39750), hai]
    decide
  have hpins : t.pinDir = 0b000#3 ∧ t.pinOut = 0b000#3 := by
    obtain ⟨u, hu, hlast⟩ := ticks_succ_last ht
    have hposu : position u = 53 := ticks_position reset_inRange hu
    have hsubu := (cursor_of_position (ticks_inRange reset_inRange hu).2.1).2
    exact pins_of_pinWord_off (tick_blank hlast (by omega))
  obtain ⟨hwires, hstim⟩ := ticks_frame rfl ht
  rw [hpos] at hled hsub
  rw [ht, State.eq_of_fields hbv (BitVec.eq_of_toNat_eq hled) (BitVec.eq_of_toNat_eq hsub)
    (BitVec.eq_of_toNat_eq hcnt) (BitVec.eq_of_toNat_eq hai) hpins.1 hpins.2 hwires (ticks_config ht) hstim]

/-- The state after `n` TICKs from reset depends on `n` modulo 40 500. -/
theorem ticks_reset_mod (n : Nat) : ticks n State.reset = ticks (n % 40500) State.reset := by
  have hperiods : ∀ q, ticks (40500 * q) State.reset = .next State.reset := fun q => by
    induction q with
    | zero => rfl
    | succ q ih => rw [Nat.mul_succ, ticks_add, ih, andThen_next, ticks_period]
  conv_lhs => rw [← Nat.div_add_mod n 40500, ticks_add, hperiods, andThen_next]

/-- Settles O52: 40 500 TICKs lead back to reset; and the counter and the animation cursor tell the
numbers below 40 500 apart. -/
theorem wholeStateHasPeriod40500 : Obligations.WholeStateHasPeriod40500 := by
  unfold Obligations.WholeStateHasPeriod40500
  refine fun m n => ⟨fun h => ?_, fun h => ?_⟩
  · obtain ⟨t, ht, -⟩ := ticks_answer m reset_inRange
    have hm := ticks_cnt_ai reset_inRange ht
    have hn := ticks_cnt_ai reset_inRange (h ▸ ht)
    have hcnt : State.reset.cnt.toNat = 0 := rfl
    have hai : State.reset.ai.toNat = 0 := rfl
    omega
  · rw [ticks_reset_mod m, h, ← ticks_reset_mod n]

/-- A TICK whose mask has no bit at `sub` is dark. -/
theorem tick_dark {s t : State} (h : exec .tick s = .next t)
    (hbit : ∀ k : Fin 6, s.led.toNat = k.val → (levelMask s k).getLsbD s.sub.toNat = false) :
    t.pinWord = offWord := by
  obtain ⟨k, hk⟩ := tick_led h
  rw [tick_pinWord h hk, hbit k hk]
  rfl

/-- The reference mask of a level has no bit below the top ones, as many as the level (R31). -/
theorem maskRef_dark : ∀ (L : Level) (sub : SubTick), (L.toNat = 0 ∨ sub.toNat + L.toNat < 8) →
    (maskAt maskRef L).getLsbD sub.toNat = false := by
  decide

/-- After reset every level is 0 (R140). -/
theorem reset_level (k : Fin 6) : (State.reset.bv[k]).toNat = 0 := by
  revert k
  decide

/-- The levels of the first two animator steps under the reference frame table: none, and then 1 on LEDs
0 and 1 (R142). -/
theorem framePairs_ref_first_steps (k : Fin 6) :
    ((framePairs frameRef 1)[k]).toNat = 0 ∧
      ((framePairs frameRef 2)[k]).toNat = if k.val ≤ 1 then 1 else 0 := by
  revert k
  decide

/-- Sub-tick 7 of LED 0 is lit after the second animator step (R142). -/
theorem framePairs_ref_lights :
    (maskAt maskRef (framePairs frameRef 2)[(0 : Fin 6)]).getLsbD 7 = true := by
  decide

/-- PIN_ON0's word under the reference topology (R52). -/
theorem onWord_reset_led_zero : onWord State.reset.config.topo[(0 : Fin 6)] = 0b011001#6 := by decide

/-- On the first 1 519 TICKs from reset the LED the cursor is on has level 0, but for sub-ticks 0 to 6 of
LED 0 at level 1, after the second animator step (R142). -/
theorem level_before_first_light {n : Nat} {t : State} {k : Fin 6} (hn : n ≤ 1518)
    (ht : ticks n State.reset = .next t) (hk : t.led.toNat = k.val) :
    (t.bv[k]).toNat = 0 ∨ t.sub.toNat + (t.bv[k]).toNat < 8 := by
  have hcnt : State.reset.cnt.toNat = 0 := rfl
  have hai : t.ai.toNat = (0 + (0 + n) / 750) % 54 := (ticks_cnt_ai reset_inRange ht).2
  have hframe : State.reset.config.frame = frameRef := rfl
  obtain hlt | ⟨hge, hlt⟩ | hge : n < 750 ∨ (750 ≤ n ∧ n < 1500) ∨ 1500 ≤ n := by omega
  · rw [ticks_keep_bv_below_threshold (by omega) ht]
    exact .inl (reset_level k)
  · have hone : t.ai.toNat = 1 := by omega
    rw [ticks_bv reset_inRange ht (by omega), hone, hframe]
    exact .inl (framePairs_ref_first_steps k).1
  · have htwo : t.ai.toNat = 2 := by omega
    rw [ticks_bv reset_inRange ht (by omega), htwo, hframe, (framePairs_ref_first_steps k).2]
    obtain ⟨hled, hsub⟩ := cursor_of_position (ticks_inRange reset_inRange ht).2.1
    have hpos : position t = (0 + n) % 54 := ticks_position reset_inRange ht
    split
    case isTrue h1 => omega
    case isFalse => exact .inl rfl

/-- Settles O53: before the 1 520th TICK the LED the cursor is on is dark at its level; then LED 0, at
level 1, reaches sub-tick 7. -/
theorem firstLightIsOnTick1520 : Obligations.FirstLightIsOnTick1520 := by
  unfold Obligations.FirstLightIsOnTick1520
  have hmask : ∀ {n : Nat} {t : State} (k : Fin 6), ticks n State.reset = .next t →
      levelMask t k = maskAt maskRef t.bv[k] := fun k ht => by
    rw [levelMask, ticks_config ht]
    rfl
  refine ⟨fun n hn => ?_, ?_⟩
  · cases n with
    | zero => exact ⟨_, rfl, rfl⟩
    | succ n =>
      obtain ⟨u, hu, -⟩ := ticks_answer (n + 1) reset_inRange
      obtain ⟨t, ht, hlast⟩ := ticks_succ_last hu
      refine ⟨u, hu, tick_dark hlast fun k hk => ?_⟩
      rw [hmask k ht]
      exact maskRef_dark _ _ (level_before_first_light (by omega) ht hk)
  · obtain ⟨u, hu, -⟩ := ticks_answer 1520 reset_inRange
    obtain ⟨t, ht, hlast⟩ := ticks_succ_last hu
    have hai : t.ai.toNat = 2 := (ticks_cnt_ai reset_inRange ht).2
    have hpos : position t = 7 := ticks_position reset_inRange ht
    obtain ⟨hled, hsub⟩ := cursor_of_position (ticks_inRange reset_inRange ht).2.1
    have hled : t.led.toNat = 0 := by omega
    have hsub : t.sub.toNat = 7 := by omega
    have hframe : State.reset.config.frame = frameRef := rfl
    refine ⟨u, hu, ?_⟩
    rw [tick_pinWord (k := 0) hlast hled, hmask 0 ht, hsub, ticks_config ht,
      ticks_bv reset_inRange ht (Nat.le_add_left 750 769), hai, hframe, if_pos framePairs_ref_lights,
      onWord_reset_led_zero]

end Sys2Proof.Machine

namespace Sys2Proof.Machine

/-! ### Observations (30_encoding.md R58, R59) -/

/-- An outcome is a next state or a refusal: no operation faults (R120). -/
theorem outcome_cases (o : Host.Outcome State Fault Refusal) :
    (∃ t, o = .next t) ∨ ∃ r, o = .refused r := by
  cases o with
  | next t => exact .inl ⟨t, rfl⟩
  | fault e => cases e
  | refused r => exact .inr ⟨r, rfl⟩

/-- `ws` holds the pin word after each of `n` steps, in order. -/
def IsPinTrace (n : Nat) (s : State) (ws : List PinWord) : Prop :=
  ws.length = n ∧ ∀ k < n, ∃ u, steps (k + 1) s = .next u ∧ ws[k]? = some u.pinWord

/-- There is one pin trace at most. -/
theorem IsPinTrace.unique {n : Nat} {s : State} {ws ws' : List PinWord} (h : IsPinTrace n s ws)
    (h' : IsPinTrace n s ws') : ws = ws' := by
  obtain ⟨hlen, hword⟩ := h
  obtain ⟨hlen', hword'⟩ := h'
  refine List.ext_getElem? fun k => ?_
  by_cases hk : k < n
  · obtain ⟨u, hu, hw⟩ := hword k hk
    obtain ⟨u', hu', hw'⟩ := hword' k hk
    rw [hu] at hu'
    cases hu'
    rw [hw, hw']
  · rw [List.getElem?_eq_none (by omega), List.getElem?_eq_none (by omega)]

/-- A step in front of a run puts its pin word in front of the trace. -/
theorem IsPinTrace.cons {n : Nat} {s t : State} {ws : List PinWord} (hs : step s = .next t)
    (h : IsPinTrace n t ws) : IsPinTrace (n + 1) s (t.pinWord :: ws) := by
  obtain ⟨hlen, hword⟩ := h
  refine ⟨by rw [List.length_cons, hlen], fun k hk => ?_⟩
  rw [steps_succ, hs, andThen_next]
  cases k with
  | zero => exact ⟨t, rfl, rfl⟩
  | succ k => exact hword k (by omega)

/-- Where the steps answer, the observation is the pin trace and the last state. -/
theorem observe_of_steps {n : Nat} {s t : State} (h : steps n s = .next t) :
    ∃ ws, observe n s = .ok (ws, t) ∧ IsPinTrace n s ws := by
  induction n generalizing s with
  | zero =>
    cases h
    exact ⟨[], rfl, rfl, fun k hk => absurd hk (Nat.not_lt_zero k)⟩
  | succ n ih =>
    obtain ⟨u, hu, ht⟩ := andThen_eq_next.mp h
    obtain ⟨ws, hobs, htrace⟩ := ih ht
    exact ⟨u.pinWord :: ws, by rw [observe_succ, hu, resultOf_next, ok_bind, hobs, ok_bind], htrace.cons hu⟩

/-- Where the steps are refused, so is the observation, for the same reason. -/
theorem observe_of_steps_refused {n : Nat} {s : State} {r : Refusal} (h : steps n s = .refused r) :
    observe n s = .error r := by
  induction n generalizing s with
  | zero => cases h
  | succ n ih =>
    rw [steps_succ] at h
    rw [observe_succ]
    obtain ⟨u, hu⟩ | ⟨r', hr⟩ := outcome_cases (step s)
    · rw [hu, andThen_next] at h
      rw [hu, resultOf_next, ok_bind, ih h, error_bind]
    · rw [hr, andThen_refused] at h
      cases h
      rw [hr, resultOf_refused, error_bind]

/-- Settles O57: the steps answer or are refused, and in both cases the observation is known. -/
theorem observationHasOnePinWordPerEvent : Obligations.ObservationHasOnePinWordPerEvent := by
  unfold Obligations.ObservationHasOnePinWordPerEvent
  intro n s
  obtain ⟨t, ht⟩ | ⟨r, hr⟩ := outcome_cases (steps n s)
  · obtain ⟨ws, hobs, htrace⟩ := observe_of_steps ht
    refine ⟨fun t' ws' => ⟨fun h => ?_, fun ⟨hst, htrace'⟩ => ?_⟩, fun r => ?_⟩
    · rw [hobs] at h
      cases h
      exact ⟨ht, htrace⟩
    · rw [ht] at hst
      cases hst
      rw [hobs, htrace.unique htrace']
    · simp [hobs, ht]
  · have hobs := observe_of_steps_refused hr
    exact ⟨fun t ws => by simp [hobs, hr], fun r' => by simp [hobs, hr]⟩

/-- A TICK does not read the words still to be delivered, and keeps them. -/
theorem execTick_withStimulus (s : State) (ws : List OpWord) :
    exec .tick (s.withStimulus ws) = andThen (exec .tick s) fun t => .next (t.withStimulus ws) := by
  rw [exec_tick, exec_tick, andThen_toOutcome_map _ fun t => t.withStimulus ws]
  simp only [tickState, map_bind]
  rfl

/-- Delivered TICKs run as TICKs do, and take their words (R59). -/
theorem steps_of_tick_words (n : Nat) {s : State} (hc : s.config.Ok) :
    steps n (s.withStimulus (List.replicate n (.ev 0b01#2))) = ticks n (s.withStimulus []) := by
  induction n generalizing s with
  | zero => rfl
  | succ n ih =>
    have hstep : step (s.withStimulus (List.replicate (n + 1) (.ev 0b01#2))) =
        exec .tick (s.withStimulus (List.replicate n (.ev 0b01#2))) :=
      step_of_fetch (fetch_decoded (s := s.withStimulus (List.replicate (n + 1) (.ev 0b01#2))) hc rfl rfl)
    rw [steps_succ, ticks_succ, hstep, execTick_withStimulus, execTick_withStimulus]
    obtain ⟨u, hu⟩ | ⟨r, hr⟩ := outcome_cases (exec .tick s)
    · rw [hu]
      exact ih (exec_config hu ▸ hc)
    · rw [hr]
      rfl

/-- Settles O58: the stimulus delivers `n` TICK words to the start state, and observing them takes the
steps that `n` TICKs are. -/
theorem observedTicksReachTheStateOfTheTicks : Obligations.ObservedTicksReachTheStateOfTheTicks := by
  unfold Obligations.ObservedTicksReachTheStateOfTheTicks
  intro n s hc hs
  obtain ⟨t, ht, -⟩ := ticks_answer n (s := s.withStimulus []) hs
  rw [← steps_of_tick_words n hc] at ht
  obtain ⟨ws, hobs, -⟩ := observe_of_steps ht
  refine ⟨t, ws, (steps_of_tick_words n hc).symm.trans ht, ?_⟩
  have hwords : (Stimulus.mk (some s) [.tickTimes n]).words = List.replicate n 0b01#2 := by
    simp [Stimulus.words, StimLine.words]
  rw [Stimulus.observation, Stimulus.initial, hwords, List.map_replicate, List.length_replicate]
  exact hobs

end Sys2Proof.Machine
